-- ==== Sys2Proof/Word.lean ====
section
/-! DEFINITION. The word types: one lane, the lane file, and the pair the host puts on the command port
(00_scope.md R3, R5; 10_state.md R10; 30_encoding.md R41). -/

namespace Sys2Proof

/-- One lane: an unsigned 64-bit word (R3, R5, R10).  `^^^`, `&&&`, `~~~` are R5's bitwise operators and
`*` on it is R5's product modulo 2^64. -/
abbrev Word := BitVec 64

/-- The lane file S[0] to S[24]: always 25 lanes, never resized (R3, R10). -/
abbrev Lanes := Vector Word 25

/-- A command as it stands on the port: the 16-bit command word CW and the 64-bit data word CD (R41). -/
structure Command where
  /-- CW: `op` in bits 15:12, `rsv` in bits 11:8, `arg` in bits 7:0. -/
  word : BitVec 16
  /-- CD: the lane value of LDLANE, ignored by every other command. -/
  data : Word
  deriving DecidableEq, Repr, Inhabited

end Sys2Proof
end

