-- ==== Sys2Proof/Syntax.lean ====
section
/-! DEFINITION. The commands of the opcode map as terms: one constructor per row of spec/opcode_table.json
(30_encoding.md R43, R44, R47). -/

namespace Sys2Proof

/-- A command of the opcode map (R44).  The operand is `arg` read as an unsigned integer (R43); an LDLANE also
carries CD, which the other two ignore (R41), so they do not carry it (log entry 13). -/
inductive Instr where
  /-- LDLANE idx, value (op 0x1, R89). -/
  | ldlane (idx : Nat) (value : Word)
  /-- RDLANE idx (op 0x2, R90). -/
  | rdlane (idx : Nat)
  /-- PERMUTE rounds (op 0x3, R78). -/
  | permute (rounds : Nat)
  deriving DecidableEq, Repr

/-- The operand that stands in the `arg` field (R41, R43). -/
def Instr.operand : Instr → Nat
  | .ldlane idx _ => idx
  | .rdlane idx => idx
  | .permute rounds => rounds

/-- LDSTATE v0, ..., v24 (R48): 25 LDLANEs in rising index order. -/
def ldstate (v : Lanes) : List Instr := (List.finRange 25).map fun i => .ldlane i.val v[i]

/-- RDSTATE (R48): 25 RDLANEs in rising index order. -/
def rdstate : List Instr := (List.finRange 25).map fun i => .rdlane i.val

/-- KECCAKF (R48): PERMUTE 24. -/
def keccakf : List Instr := [.permute 24]

end Sys2Proof
end

