-- ==== Sys2Proof/WellFormed.lean ====
section
/-! DEFINITION. Which terms of Instr an encoding exists for: the operand fits the 8-bit `arg` field
(30_encoding.md R41, R43).  Operands 25 to 255 are well formed: they decode, and the command's own range check
rejects them (R45). -/

namespace Sys2Proof

/-- The operand is one of the values 0 to 255 that `arg` expresses (R43). -/
def Instr.wellFormed (i : Instr) : Bool := decide (i.operand ≤ 255)

end Sys2Proof
end

