-- ==== Sys2Proof/Decode.lean ====
section
/-! DEFINITION. The decoder, total on all 65536 command words, and the encoder, from the format and the opcode map of
30_encoding.md (R41, R43, R44, R45, R47). -/

namespace Sys2Proof

/-- Why a command word is no command (R45); either way its response is ERR_ILLEGAL (R91). -/
inductive DecodeError where
  /-- `rsv` is not 0, whatever `op` is. -/
  | reservedBits
  /-- `op` is 0x0 or one of 0x4 to 0xF. -/
  | reservedOpcode
  deriving DecidableEq, Repr

/-- `op` = CW[15:12] (R41). -/
def Command.op (c : Command) : BitVec 4 := c.word.extractLsb' 12 4

/-- `rsv` = CW[11:8] (R41). -/
def Command.rsv (c : Command) : BitVec 4 := c.word.extractLsb' 8 4

/-- `arg` = CW[7:0] (R41). -/
def Command.arg (c : Command) : BitVec 8 := c.word.extractLsb' 0 8

/-- The command a (CW, CD) pair stands for (R44), or why it stands for none (R45). -/
def decode (c : Command) : Except DecodeError Instr :=
  if c.rsv ≠ 0#4 then .error .reservedBits
  else if c.op = 1#4 then .ok (.ldlane c.arg.toNat c.data)
  else if c.op = 2#4 then .ok (.rdlane c.arg.toNat)
  else if c.op = 3#4 then .ok (.permute c.arg.toNat)
  else .error .reservedOpcode

/-- The opcode of each row (R44). -/
def Instr.opcode : Instr → BitVec 4
  | .ldlane _ _ => 1#4
  | .rdlane _ => 2#4
  | .permute _ => 3#4

/-- CD of an encoded command: the lane value for LDLANE, 0 otherwise (R47). -/
def Instr.dataWord : Instr → Word
  | .ldlane _ value => value
  | .rdlane _ => 0#64
  | .permute _ => 0#64

/-- The pair a well-formed command is encoded as: CW = op || 0 || arg, that is (op << 12) | arg (R41, R47). -/
def encode (i : Instr) : Command :=
  ⟨i.opcode ++ 0#4 ++ BitVec.ofNat 8 i.operand, i.dataWord⟩

/-- The (CW, CD) pair whose bits are the low `nbits` bits of `w`, CW in bits 15:0 and CD in bits 79:16; the
numbering is the host's (log entry 5). -/
def commandOfBits (nbits w : Nat) : Command :=
  ⟨BitVec.ofNat 16 (w % 2 ^ nbits), BitVec.ofNat 64 (w % 2 ^ nbits / 2 ^ 16)⟩

/-- What the decoder reads from the bits of one opcode-table row. -/
def decodeTableWord (nbits w : Nat) : Option Instr := (decode (commandOfBits nbits w)).toOption

end Sys2Proof
end

