-- ==== Sys2Proof/Machine/Operands.lean ====
section
/-! DEFINITION. The operand forms: the lane index and the round count with their range checks (30_encoding.md R43;
60_exceptions.md R94, R95), the lane coordinates (00_scope.md R7) and the rotate (R6). -/

namespace Sys2Proof.Machine

/-- The lane an index names: 0 to 24; an index above 24 names none (R34, R95). -/
def laneIndex? (idx : Nat) : Option (Fin 25) := if h : idx < 25 then some ⟨idx, h⟩ else none

/-- A legal round count: 0 to 24 (R78); the value above 24 is none (R94). -/
def roundCount? (rounds : Nat) : Option (Fin 25) := if h : rounds < 25 then some ⟨rounds, h⟩ else none

/-- The lane at column `x`, row `y`: x + 5y (R7). -/
def laneAt (x y : Fin 5) : Fin 25 := ⟨x.val + 5 * y.val, by omega⟩

/-- The column of a lane: i mod 5 (R7). -/
def colOf (i : Fin 25) : Fin 5 := ⟨i.val % 5, by omega⟩

/-- The row of a lane: floor(i / 5) (R7). -/
def rowOf (i : Fin 25) : Fin 5 := ⟨i.val / 5, by omega⟩

/-- Left rotation of a lane, bit `i` to bit (i + n) mod 64, for n from 1 to 63 (R6). -/
def rotl (v : Word) (n : Nat) : Word := v <<< n ||| v >>> (64 - n)

end Sys2Proof.Machine
end

