-- ==== Sys2Proof/Config.lean ====
section
/-! DEFINITION. What an instance of the engine fixes when it is built (00_scope.md R2, R4; D10, D21; U5), and the
free values of what the spec leaves unspecified (10_state.md R20, R21; U1).  The tables' values are in
Machine/Tables.lean. -/

namespace Sys2Proof

/-- `VARIANT` (R2): which parity Theta computes. -/
inductive Variant where
  /-- `STD`, the document's standard variant (R56). -/
  | std
  /-- `MUL`, the document's multiplicative variant (R57). -/
  | mul
  deriving DecidableEq, Repr, Inhabited

/-- `IMPL` (R4, R82, R83): the organisation of the round logic. -/
inductive Impl where
  /-- `ITERATED`: one round of logic, used `rounds` times (R82). -/
  | iterated
  /-- `UNROLLED`: 24 rounds of logic in a row, one step per PERMUTE (R83). -/
  | unrolled
  deriving DecidableEq, Repr, Inhabited

/-- The two design-time parameters of one engine instance (R2, R4). -/
structure Params where
  variant : Variant
  impl : Impl
  deriving DecidableEq, Repr, Inhabited

/-- The three constant tables, 24 entries each (R26): round constants, rotation amounts, destination lanes.
The step functions take them as an argument (R4, U5). -/
structure Config.Tables where
  /-- `RC`, read by Iota (R27). -/
  rc : Vector Word 24
  /-- `ROTC`, read by Rho+Pi (R28). -/
  rotc : Vector Nat 24
  /-- `PILN`, read by Rho+Pi (R29). -/
  piln : Vector (Fin 25) 24
  deriving DecidableEq, Repr

/-- The parameters the engine that is reset was built with: left open by the spec (D10, D21), so uninterpreted.
DESIGN CHOICE, log entry 3; safe. -/
opaque Config.params : Params

/-- What lane `i` holds after the `n`-th reset until an LDLANE writes it: unspecified (R20, R21), so an unknown but
fixed word, the `parameter` treatment of U1.  DESIGN CHOICE, log entry 1. -/
opaque Config.unspecifiedLane : Nat → Fin 25 → Word

end Sys2Proof
end

