-- ==== Sys2Proof/Machine/State.lean ====
section
/-! DEFINITION. The engine's state as plain data (10_state.md), its response, the reasons a step can stop, and the state
after reset (R20, R107). -/

namespace Sys2Proof.Machine

/-- The response codes (30_encoding.md R42); the causes are 60_exceptions.md R94 to R96, and there are no others (R97). -/
inductive RspCode where
  /-- The command was carried out. -/
  | ok
  /-- PERMUTE with a round count above 24 (R94). -/
  | errRounds
  /-- LDLANE or RDLANE with a lane index above 24 (R95). -/
  | errIndex
  /-- Reserved opcode or non-zero `rsv` (R96). -/
  | errIllegal
  deriving DecidableEq, Repr, Inhabited

/-- A response: the code and the 64-bit data word RSPD (R42). -/
structure Response where
  code : RspCode
  data : Word
  deriving DecidableEq, Repr, Inhabited

/-- Why a step can stop.  The spec gives the engine no trap and no stuck state (60_exceptions.md R93, R97): each of
these is raised by `sequencerStep` alone, in states that no run reaches (`Sys2Proof.Inv` rules them out), where
44_round_and_permute.md R82 gives no step.  Safe: the model stops where the spec says nothing (log entry 11). -/
inductive Fault where
  /-- BUSY = 1 and RIDX above RNDS: neither a round step nor the completion step of R82 is enabled.  Safe. -/
  | ridxAboveRnds
  /-- BUSY = 1 and a round due with RIDX above 23: RC[RIDX] does not exist and is never read (R27, R73).  Safe. -/
  | ridxPastTable
  /-- BUSY = 1 in an UNROLLED engine, which has no sequencer (R15, R83).  Safe. -/
  | busyUnrolled
  deriving DecidableEq, Repr

/-- Why an instruction can have no meaning here.  None has none: all 65536 command words are defined (U3). -/
inductive Refusal where
  /-- An instruction the model gives no meaning yet; raised by no arm of `exec`.  Safe. -/
  | notModelled (mnemonic : String)
  deriving DecidableEq, Repr

/-- Everything the engine holds (10_state.md section 1), the ports the host drives (30_encoding.md R49), the instance's
parameters, and three fields of the model's own. -/
structure State where
  /-- S[0] to S[24] (R10). -/
  lanes : Lanes
  /-- RIDX, the index of the next round (R12). -/
  ridx : BitVec 5
  /-- RNDS, the round count of the PERMUTE in progress (R14). -/
  rnds : BitVec 5
  /-- BUSY, a PERMUTE is in progress (R15). -/
  busy : Bool
  /-- The response waiting to be delivered, if any (R42, R50, R88). -/
  rsp : Option Response
  /-- Input: the commands the host presents, one after another.  The head is what stands on the port with
  cmd_valid = 1; the empty list is cmd_valid = 0 (R49, R50).  It is the host's, not a queue of the engine (R88);
  log entry 5. -/
  offered : List Command
  /-- Input: rsp_ready (R49); log entry 6. -/
  rspReady : Bool
  /-- Input: a reset is requested (R49, R107); log entry 7. -/
  rst : Bool
  /-- VARIANT and IMPL of this instance (R4): no step writes them; log entry 3. -/
  params : Params
  /-- The model's own: lane `i` has been written since reset, the ghost bit of U1 (R21); log entry 2. -/
  written : Vector Bool 25
  /-- The model's own: the responses the host has received, oldest first (R42); log entry 8. -/
  received : List Response
  /-- The model's own: resets so far, which numbers the free lane values each reset leaves; log entry 1. -/
  resets : Nat
  deriving DecidableEq, Repr

/-- The engine right after reset (R20, R107): BUSY = RIDX = RNDS = 0, no response pending, every lane
unspecified.  The inputs and the model's own fields as log entries 1, 2 and 5 to 8 name them; the parameters as the
instance was built (log entry 3). -/
def State.reset : State where
  lanes := Vector.ofFn (Config.unspecifiedLane 0)
  ridx := 0
  rnds := 0
  busy := false
  rsp := none
  offered := []
  rspReady := true
  rst := false
  params := Config.params
  written := Vector.replicate 25 false
  received := []
  resets := 0

end Sys2Proof.Machine
end

