-- ==== Sys2Proof/Machine/Flags.lean ====
section
/-! DEFINITION. The engine has no flags (10_state.md R13).  What stands in their place: the 2-bit response codes
(30_encoding.md R42) and the status the host sees on the output ports, cmd_ready and the response (R49, R50). -/

namespace Sys2Proof.Machine

/-- RSPC, the 2-bit code (R42). -/
def RspCode.bits : RspCode → BitVec 2
  | .ok => 0
  | .errRounds => 1
  | .errIndex => 2
  | .errIllegal => 3

/-- Idle: BUSY = 0 and no response waiting (R88). -/
def State.idle (s : State) : Bool := !s.busy && s.rsp.isNone

/-- cmd_ready: 0 from the acceptance of a command until its response is delivered, 1 otherwise (R50). -/
def State.cmdReady (s : State) : Bool := s.idle

/-- rsp_valid (R49). -/
def State.rspValid (s : State) : Bool := s.rsp.isSome

/-- rsp_code while rsp_valid = 1 (R42, R49); what it carries otherwise is not modelled (U10). -/
def State.rspCode (s : State) : Option (BitVec 2) := s.rsp.map fun r => r.code.bits

/-- rsp_data while rsp_valid = 1 (R42, R49). -/
def State.rspData (s : State) : Option Word := s.rsp.map fun r => r.data

/-- All 25 bits are set. -/
def allSet (w : Vector Bool 25) : Bool := w.toList.all id

/-- Every lane has been written since reset: the host's duty of R110. -/
def State.allWritten (s : State) : Bool := allSet s.written

end Sys2Proof.Machine
end

