-- ==== Sys2Proof/Machine/Ops.lean ====
section
/-! DEFINITION. The named operations over the state that the commands, the sequencer and the port share: lane reads and
writes, the response, rejection (the engine's exception entry, R100), delivery (in the place of a return, R101), the
sequencer's registers and reset. -/

namespace Sys2Proof.Machine

/-- S[i] (R10). -/
def readLane (i : Fin 25) (s : State) : Word := s.lanes[i]

/-- S[i] <- v, all 64 bits (R33); the lane becomes specified (R21). -/
def writeLane (i : Fin 25) (v : Word) (s : State) : State :=
  { s with lanes := s.lanes.set i v, written := s.written.set i true }

/-- `respond(code, data)`: end the command with this response, which then waits for the host (R42, R88). -/
def respond (code : RspCode) (data : Word) (s : State) : State := { s with rsp := some ⟨code, data⟩ }

/-- `raise code()`: the response (code, 0) is the whole effect (R93, R100). -/
def reject (code : RspCode) (s : State) : State := respond code 0 s

/-- The waiting response is delivered: the engine is idle again and nothing of an error stays behind (R101). -/
def deliver (r : Response) (s : State) : State := { s with rsp := none, received := s.received ++ [r] }

/-- Which lanes stay specified through one round or more: all if all were, none otherwise, since every lane of the
result depends on every column parity (R21). -/
def writtenAfterRounds (w : Vector Bool 25) : Vector Bool 25 := Vector.replicate 25 (allSet w)

/-- A round's result in the lanes (R76), with the ghost bits of R21. -/
def putRounds (lanes : Lanes) (s : State) : State :=
  { s with lanes := lanes, written := writtenAfterRounds s.written }

/-- Acceptance of a legal PERMUTE in an ITERATED engine: RNDS <- rounds, RIDX <- 0, BUSY <- 1 (R82). -/
def startRounds (rounds : Fin 25) (s : State) : State :=
  { s with rnds := BitVec.ofNat 5 rounds.val, ridx := 0, busy := true }

/-- RIDX <- RIDX + 1 (R12, R82). -/
def nextRound (s : State) : State := { s with ridx := s.ridx + 1 }

/-- The completion step: BUSY <- 0 and respond(OK, 0) (R82). -/
def finishRounds (s : State) : State := respond .ok 0 { s with busy := false }

/-- RIDX and RNDS as a finished PERMUTE leaves them (R12, R14); BUSY was set and cleared within the step (R15). -/
def leaveCount (rounds : Fin 25) (s : State) : State :=
  { s with rnds := BitVec.ofNat 5 rounds.val, ridx := BitVec.ofNat 5 rounds.val }

/-- Reset, one atomic step at any point (R107): the control state of R20, no response pending, any command in
progress abandoned (R109), every lane unspecified again; the parameters and the host's side stay (R108, log
entry 7). -/
def takeReset (s : State) : State :=
  { s with
    lanes := Vector.ofFn (Config.unspecifiedLane (s.resets + 1)), ridx := 0, rnds := 0, busy := false, rsp := none,
    rst := false, written := Vector.replicate 25 false, resets := s.resets + 1 }

end Sys2Proof.Machine
end

