-- ==== Sys2Proof/Machine/HostCommands.lean ====
section
/-! DEFINITION. The meanings of LDLANE and RDLANE (45_host_commands.md R89, R90): what the command that the port has
accepted does. -/

namespace Sys2Proof.Machine

/-- LDLANE idx, value (R89): an index above 24 is rejected with ERR_INDEX; otherwise S[idx] <- value and (OK, 0). -/
def execLdlane (idx : Nat) (value : Word) (s : State) : Host.Outcome State Fault Refusal :=
  match laneIndex? idx with
  | none => .next (reject .errIndex s)
  | some i => .next (respond .ok 0 (writeLane i value s))

/-- RDLANE idx (R90): an index above 24 is rejected with ERR_INDEX; otherwise (OK, S[idx]) and no change. -/
def execRdlane (idx : Nat) (s : State) : Host.Outcome State Fault Refusal :=
  match laneIndex? idx with
  | none => .next (reject .errIndex s)
  | some i => .next (respond .ok (readLane i s) s)

end Sys2Proof.Machine
end

