-- ==== Sys2Proof/Machine/Chi.lean ====
section
/-! DEFINITION. Chi (42_chi.md R68): every row from a copy of its old values (R69). -/

namespace Sys2Proof.Machine

/-- CHI (R68): S[x + 5y] ^= ~old[x+1] & old[x+2] along row `y`, columns modulo 5. -/
def chi (S : Lanes) : Lanes :=
  Vector.ofFn fun i : Fin 25 =>
    S[i] ^^^ (~~~S[laneAt (colOf i + 1) (rowOf i)] &&& S[laneAt (colOf i + 2) (rowOf i)])

end Sys2Proof.Machine
end

