-- ==== Sys2Proof/Machine/Iota.lean ====
section
/-! DEFINITION. Iota (43_iota.md R72). -/

namespace Sys2Proof.Machine

/-- IOTA(r): S[0] <- S[0] ^ RC[r], r from 0 to 23 (R72, R73). -/
def iota (tab : Config.Tables) (r : Fin 24) (S : Lanes) : Lanes := S.set 0 (S[0] ^^^ tab.rc[r])

end Sys2Proof.Machine
end

