-- ==== Sys2Proof/Machine/RhoPi.lean ====
section
/-! DEFINITION. Rho+Pi (41_rho_pi.md R62): the sequential chain, which is the normative form (R66). -/

namespace Sys2Proof.Machine

/-- One iteration of the chain on the lanes and `T`: j = PILN[i]; save S[j]; S[j] <- rotl(T, ROTC[i]); T <- saved (R62). -/
def rhoPiLink (tab : Config.Tables) (p : Lanes × Word) (i : Fin 24) : Lanes × Word :=
  (p.1.set tab.piln[i] (rotl p.2 tab.rotc[i]), p.1[tab.piln[i]])

/-- RHOPI (R62): T <- S[1], then iterations 0 to 23; the last T is discarded. -/
def rhoPi (tab : Config.Tables) (S : Lanes) : Lanes :=
  ((List.finRange 24).foldl (rhoPiLink tab) (S, S[1])).1

end Sys2Proof.Machine
end

