-- ==== Sys2Proof/Machine/Theta.lean ====
section
/-! DEFINITION. Theta (40_theta.md R55 to R59), both variants: five parities from the lanes on entry, then the column
update. -/

namespace Sys2Proof.Machine

/-- BC[c] of column `c`, from the lanes on entry: the five-way XOR of R56, or R57's product of rows 2, 3 and 4
XORed with rows 0 and 1. -/
def thetaParity (v : Variant) (S : Lanes) (c : Fin 5) : Word :=
  match v with
  | .std => S[laneAt c 0] ^^^ S[laneAt c 1] ^^^ S[laneAt c 2] ^^^ S[laneAt c 3] ^^^ S[laneAt c 4]
  | .mul => S[laneAt c 0] ^^^ S[laneAt c 1] ^^^ (S[laneAt c 2] * S[laneAt c 3] * S[laneAt c 4])

/-- D[c] = BC[(c+4) mod 5] ^ rotl(BC[(c+1) mod 5], 1) (R58). -/
def thetaDelta (bc : Vector Word 5) (c : Fin 5) : Word := bc[c + 4] ^^^ rotl bc[c + 1] 1

/-- THETA (R59): phase 1 makes all five parity words, phase 2 XORs D[c] into the five lanes of column `c` (R55). -/
def theta (v : Variant) (S : Lanes) : Lanes :=
  let bc : Vector Word 5 := Vector.ofFn (thetaParity v S)
  let d : Vector Word 5 := Vector.ofFn (thetaDelta bc)
  Vector.ofFn fun i : Fin 25 => S[i] ^^^ d[colOf i]

end Sys2Proof.Machine
end

