-- ==== Sys2Proof/Machine/Round.lean ====
section
/-! DEFINITION. The round (44_round_and_permute.md R76) and the rounds a PERMUTE runs (R77, R79). -/

namespace Sys2Proof.Machine

/-- ROUND(r): Theta, Rho+Pi, Chi, Iota(r), each on the lanes the one before left (R76). -/
def runRound (tab : Config.Tables) (v : Variant) (r : Fin 24) (S : Lanes) : Lanes :=
  iota tab r (chi (rhoPi tab (theta v S)))

/-- ROUND(0), ..., ROUND(n - 1) in that order, for n up to 24 (R77, R79). -/
def runRounds (tab : Config.Tables) (v : Variant) (n : Nat) (h : n ≤ 24) (S : Lanes) : Lanes :=
  match n with
  | 0 => S
  | k + 1 => runRound tab v ⟨k, h⟩ (runRounds tab v k (Nat.le_of_succ_le h) S)

end Sys2Proof.Machine
end

