-- ==== Sys2Proof/Machine/Tables.lean ====
section
/-! DEFINITION. The contents of the three constant tables (20_memory.md R27, R28, R29), the only sanctioned values of the
tables the step functions take as an argument (D14, U5; log entry 4).  No command writes them (R26). -/

namespace Sys2Proof.Machine

/-- RC[r] for each round index `r`, as R27 tabulates it; no other index exists. -/
def roundConstant (r : Fin 24) : Word :=
  match r with
  | ⟨0, _⟩ => 0x0000_0000_0000_0001
  | ⟨1, _⟩ => 0x0000_0000_0000_8082
  | ⟨2, _⟩ => 0x8000_0000_0000_808A
  | ⟨3, _⟩ => 0x8000_0000_8000_8000
  | ⟨4, _⟩ => 0x0000_0000_0000_808B
  | ⟨5, _⟩ => 0x0000_0000_8000_0001
  | ⟨6, _⟩ => 0x8000_0000_8000_8081
  | ⟨7, _⟩ => 0x8000_0000_0000_8009
  | ⟨8, _⟩ => 0x0000_0000_0000_008A
  | ⟨9, _⟩ => 0x0000_0000_0000_0088
  | ⟨10, _⟩ => 0x0000_0000_8000_8009
  | ⟨11, _⟩ => 0x0000_0000_8000_000A
  | ⟨12, _⟩ => 0x0000_0000_8000_808B
  | ⟨13, _⟩ => 0x8000_0000_0000_008B
  | ⟨14, _⟩ => 0x8000_0000_0000_8089
  | ⟨15, _⟩ => 0x8000_0000_0000_8003
  | ⟨16, _⟩ => 0x8000_0000_0000_8002
  | ⟨17, _⟩ => 0x8000_0000_0000_0080
  | ⟨18, _⟩ => 0x0000_0000_0000_800A
  | ⟨19, _⟩ => 0x8000_0000_8000_000A
  | ⟨20, _⟩ => 0x8000_0000_8000_8081
  | ⟨21, _⟩ => 0x8000_0000_0000_8080
  | ⟨22, _⟩ => 0x0000_0000_8000_0001
  | ⟨23, _⟩ => 0x8000_0000_8000_8008
  | ⟨n + 24, h⟩ => absurd h (by omega)

/-- `RC`, the round constants in round order (R27). -/
def rcTable : Vector Word 24 := Vector.ofFn roundConstant

/-- `ROTC`, the rotation amounts in chain order (R28). -/
def rotcTable : Vector Nat 24 :=
  #v[1, 3, 6, 10, 15, 21, 28, 36, 45, 55, 2, 14, 27, 41, 56, 8, 25, 43, 62, 18, 39, 61, 20, 44]

/-- `PILN`, the destination lanes in chain order (R29). -/
def pilnTable : Vector (Fin 25) 24 :=
  #v[10, 7, 11, 17, 18, 3, 5, 16, 8, 21, 24, 4, 15, 23, 19, 13, 12, 2, 20, 14, 22, 9, 6, 1]

/-- The tables every engine holds, whatever VARIANT is (R26). -/
def tables : Config.Tables := ⟨rcTable, rotcTable, pilnTable⟩

end Sys2Proof.Machine
end

