-- ==== Sys2Proof/Machine/Permute.lean ====
section
/-! DEFINITION. PERMUTE in both organisations (44_round_and_permute.md R78 to R83): the meaning at acceptance, and the
round and completion steps of the ITERATED sequencer. -/

namespace Sys2Proof.Machine

/-- UNROLLED: acceptance, all rounds and completion in one step (R79, R83).  With no round the lanes and their ghost
bits stay (R81). -/
def permuteAtOnce (rounds : Fin 25) (s : State) : State :=
  let lanes := runRounds tables s.params.variant rounds.val (Nat.le_of_lt_succ rounds.isLt) s.lanes
  respond .ok 0 (leaveCount rounds (if rounds.val = 0 then s else putRounds lanes s))

/-- PERMUTE rounds (R78): above 24 it is rejected with ERR_ROUNDS before anything changes (R80); otherwise an
ITERATED engine starts its rounds (R82) and an UNROLLED one runs them at once (R83). -/
def execPermute (rounds : Nat) (s : State) : Host.Outcome State Fault Refusal :=
  match roundCount? rounds with
  | none => .next (reject .errRounds s)
  | some n => .next (match s.params.impl with
    | .iterated => startRounds n s
    | .unrolled => permuteAtOnce n s)

/-- A round step (R82): ROUND(RIDX), then RIDX <- RIDX + 1. -/
def roundStep (r : Fin 24) (s : State) : State :=
  nextRound (putRounds (runRound tables s.params.variant r s.lanes) s)

/-- What the ITERATED sequencer does while BUSY = 1 (R82): a round step while RIDX < RNDS, the completion step when
RIDX = RNDS.  The faults are for states no run reaches (log entry 11). -/
def sequencerStep (s : State) : Host.Outcome State Fault Refusal :=
  match s.params.impl with
  | .unrolled => .fault .busyUnrolled
  | .iterated =>
    if s.ridx = s.rnds then .next (finishRounds s)
    else if s.ridx < s.rnds then
      if h : s.ridx.toNat < 24 then .next (roundStep ⟨s.ridx.toNat, h⟩ s) else .fault .ridxPastTable
    else .fault .ridxAboveRnds

end Sys2Proof.Machine
end

