-- ==== Sys2Proof/Machine/Dispatch.lean ====
section
/-! DEFINITION. What each command does once the port has accepted it: one arm per row of spec/opcode_table.json. -/

namespace Sys2Proof.Machine

def exec (i : Instr) (s : State) : Host.Outcome State Fault Refusal :=
  match i with
  | .ldlane idx value => Sys2Proof.Machine.execLdlane idx value s
  | .rdlane idx => Sys2Proof.Machine.execRdlane idx s
  | .permute rounds => Sys2Proof.Machine.execPermute rounds s

end Sys2Proof.Machine
end

