-- ==== Sys2Proof/Machine/Port.lean ====
section
/-! DEFINITION. The command and response ports (30_encoding.md R42, R49, R50; 45_host_commands.md R88, R91): acceptance of
the offered command, delivery of the response, and which event comes next. -/

namespace Sys2Proof.Machine

/-- A command accepted from the port: decoded first (R99), carried out if legal, rejected with ERR_ILLEGAL otherwise
(R91).  No command word is refused at the port (R88). -/
def acceptCommand (c : Command) (s : State) : Host.Outcome State Fault Refusal :=
  match decode c with
  | .error _ => .next (reject .errIllegal s)
  | .ok i => exec i s

/-- The engine's next event.  A reset comes before everything (R99, R107); a waiting response is delivered when the
host is ready for it and waits otherwise (R49, R88); a busy engine takes its next round or completion step (R82); an idle
one accepts the command on the port, and does nothing when there is none (R88). -/
def engineStep (s : State) : Host.Outcome State Fault Refusal :=
  if s.rst then .next (takeReset s)
  else
    match s.rsp with
    | some r => .next (if s.rspReady then deliver r s else s)
    | none =>
      if s.busy then sequencerStep s
      else
        match s.offered with
        | [] => .next s
        | c :: rest => acceptCommand c { s with offered := rest }

end Sys2Proof.Machine
end

