-- ==== Sys2Proof/Machine/Step.lean ====
section
/-! DEFINITION. One step of the machine, and placing a command where the next step takes it. -/

namespace Sys2Proof.Machine

/-- One step: the engine's next event (log entry 9). -/
def step (s : State) : Host.Outcome State Fault Refusal := engineStep s

/-- `s` with the command whose bits are `w` at the head of the port and the engine idle and not in reset, so that the
very next step accepts and runs it (R88; log entry 5). -/
def State.withFetchWord (s : State) (nbits w : Nat) : State :=
  { s with rst := false, rsp := none, busy := false, offered := commandOfBits nbits w :: s.offered }

end Sys2Proof.Machine
end

