-- ==== Sys2Proof/Safety.lean ====
section
/-! DEFINITION. The terms claims are stated in: runs of the engine, the states a run keeps to, the host's duty of
70_reset_and_hazards.md R110, and the host's own view of the engine (45_host_commands.md R92), written from the rules of
the commands and independently of the port, the sequencer and the two organisations. -/

namespace Sys2Proof

open Machine

/-- `k` steps of the engine. -/
def run (k : Nat) (s : State) : Host.Outcome State Fault Refusal := Host.Core.run core k s

/-- No reset is requested and the engine is idle: the next step accepts the command on the port (R88). -/
def Ready (s : State) : Prop := s.rst = false ∧ s.busy = false ∧ s.rsp = none

/-- What every run keeps to. -/
structure Inv (s : State) : Prop where
  /-- RNDS holds 0 to 24 (R14). -/
  rnds_le : s.rnds.toNat ≤ 24
  /-- RIDX never exceeds RNDS (R12). -/
  ridx_le : s.ridx.toNat ≤ s.rnds.toNat
  /-- When BUSY = 0, RIDX is the RNDS of the last PERMUTE (R12). -/
  idle_ridx : s.busy = false → s.ridx = s.rnds
  /-- Only an ITERATED engine is ever busy between steps (R15, R83). -/
  busy_iterated : s.busy = true → s.params.impl = .iterated
  /-- At most one command is in flight: no response waits while a PERMUTE runs (R50). -/
  busy_rsp : s.busy = true → s.rsp = none
  /-- An error response carries the data word 0 (R42). -/
  rsp_data : ∀ r, s.rsp = some r → r.code ≠ .ok → r.data = 0
  /-- So do the error responses the host has received (R42). -/
  received_data : ∀ r, r ∈ s.received → r.code ≠ .ok → r.data = 0

/-- The error a command ends in, if any: the decode check first, then the range check of its opcode (R94, R95, R96,
R99). -/
def errorOf (c : Command) : Option RspCode :=
  if c.rsv ≠ 0#4 ∨ (c.op ≠ 1#4 ∧ c.op ≠ 2#4 ∧ c.op ≠ 3#4) then some .errIllegal
  else if c.arg.toNat ≤ 24 then none
  else if c.op = 3#4 then some .errRounds
  else some .errIndex

/-- One command as the host sees it, on the lanes alone: the table of R92, with R79's rounds for PERMUTE. -/
def hostCommand (v : Variant) (S : Lanes) (c : Command) : Lanes × Response :=
  match errorOf c with
  | some e => (S, ⟨e, 0⟩)
  | none =>
    if h : c.arg.toNat ≤ 24 then
      if c.op = 1#4 then (S.set c.arg.toNat c.data, ⟨.ok, 0⟩)
      else if c.op = 2#4 then (S, ⟨.ok, S[c.arg.toNat]⟩)
      else (runRounds tables v c.arg.toNat h S, ⟨.ok, 0⟩)
    else (S, ⟨.ok, 0⟩)

/-- A stream of commands as the host sees it: one after another, one response each, in order (R36, R42). -/
def hostScript (v : Variant) (S : Lanes) : List Command → Lanes × List Response
  | [] => (S, [])
  | c :: rest =>
    let first := hostCommand v S c
    let others := hostScript v first.1 rest
    (others.1, first.2 :: others.2)

/-- The commands of a program as they stand on the port (R47). -/
def commands (program : List Instr) : List Command := program.map encode

/-- The host's duty (R110): a RDLANE names a lane that has been written since reset, and a PERMUTE that runs a round
finds all 25 written. -/
def usesOnlyWritten (s : State) : Instr → Bool
  | .ldlane _ _ => true
  | .rdlane idx =>
    match laneIndex? idx with
    | none => true
    | some i => s.written[i]
  | .permute rounds => decide (rounds = 0) || decide (24 < rounds) || s.allWritten

/-- Two states that are the same but for the values of lanes not written since reset (R21). -/
def AgreeOnWritten (s s' : State) : Prop :=
  s' = { s with lanes := s'.lanes } ∧ ∀ i : Fin 25, s.written[i] = true → s.lanes[i] = s'.lanes[i]

/-- Two states whose control is the same, whatever their lanes and the data words of their responses hold and whatever
VARIANT is: the same registers, inputs and organisation, the same response codes. -/
def SameControl (s s' : State) : Prop :=
  s'.ridx = s.ridx ∧ s'.rnds = s.rnds ∧ s'.busy = s.busy ∧ s'.offered = s.offered ∧ s'.rspReady = s.rspReady ∧
    s'.rst = s.rst ∧ s'.params.impl = s.params.impl ∧ s'.rsp.map Response.code = s.rsp.map Response.code ∧
    s'.received.map Response.code = s.received.map Response.code

/-- Commands in the engine: 1 from acceptance to delivery, 0 otherwise (R50). -/
def inFlight (s : State) : Nat := if s.idle then 0 else 1

/-- SRC[i] of R63: lane 1 for the first link, and the lane the link before wrote for every other. -/
def chainSource (tab : Config.Tables) (i : Fin 24) : Fin 25 :=
  if h : i.val = 0 then 1 else tab.piln[i.val - 1]'(by omega)

/-- The triples (d, s, n) of R63, d <- rotl(S_old[s], n), listed by destination lane. -/
def rhoPiTriples : List (Fin 25 × Fin 25 × Nat) :=
  [(1, 6, 44), (2, 12, 43), (3, 18, 21), (4, 24, 14), (5, 3, 28), (6, 9, 20),
   (7, 10, 3), (8, 16, 45), (9, 22, 61), (10, 1, 1), (11, 7, 6), (12, 13, 25),
   (13, 19, 8), (14, 20, 18), (15, 4, 27), (16, 5, 36), (17, 11, 10), (18, 17, 15),
   (19, 23, 56), (20, 2, 62), (21, 8, 55), (22, 14, 39), (23, 15, 41), (24, 21, 2)]

/-- Lane-by-lane XOR of two states, for the linearity facts (R60, R65). -/
def xorLanes (A B : Lanes) : Lanes := Vector.ofFn fun i : Fin 25 => A[i] ^^^ B[i]

/-- The all-zero state. -/
def zeroLanes : Lanes := Vector.replicate 25 0

/-- A state written as the spec prints one: five lines of five lanes, line `y` holding lanes 5y to 5y + 4 (R7). -/
def lanesOfRows (rows : Vector (Vector Word 5) 5) : Lanes := Vector.ofFn fun i : Fin 25 => rows[rowOf i][colOf i]

/-- The Keccak-f[1600] answer for the all-zero state (95_test_vectors.md vector K1; R86). -/
def knownAnswer : Lanes :=
  lanesOfRows #v[
    #v[0xF1258F7940E1DDE7, 0x84D5CCF933C0478A, 0xD598261EA65AA9EE, 0xBD1547306F80494D, 0x8B284E056253D057],
    #v[0xFF97A42D7F8E6FD4, 0x90FEE5A0A44647C4, 0x8C5BDA0CD6192E76, 0xAD30A6F71B19059C, 0x30935AB7D08FFC64],
    #v[0xEB5AA93F2317D635, 0xA9A6E6260D712103, 0x81A57C16DBCF555F, 0x43B831CD0347C826, 0x01F22F1A11A5569F],
    #v[0x05E5635A21D9AE61, 0x64BEFEF28CC970F2, 0x613670957BC46611, 0xB87C5A554FD00ECB, 0x8C3EE88A1CCF32C8],
    #v[0x940C7922AE3A2614, 0x1841F924A2C509E4, 0x16F53526E70465C2, 0x75F644E97F30A13B, 0xEAF1FF7B5CECA249]]

end Sys2Proof
end

