-- ==== Sys2Proof/Certificates/Slice0/Obligations.lean ====
section
/-! DEFINITION. The statements for the provers, from the numbered rules of spec/.  Nothing is proved here. -/

open Sys2Proof Sys2Proof.Machine

/-! ## Encoding -/

/-- Decoding an encoded command gives it back, for every command and every operand the field expresses
(30_encoding.md R41, R43, R44, R47). -/
def Obligations.DecodeOfEncode : Prop :=
  ∀ i : Instr, i.wellFormed = true → decode (encode i) = .ok i

/-- A pair that decodes is the encoding of a well-formed command, but for the CD that RDLANE and PERMUTE ignore
(30_encoding.md R41, R44, R47).  That their encoding has CD = 0, where R47 says any CD would do, is log entry 13. -/
def Obligations.EncodeOfDecode : Prop :=
  ∀ (c : Command) (i : Instr), decode c = .ok i →
    i.wellFormed = true ∧ (encode i).word = c.word ∧ (c.op = 1#4 → (encode i).data = c.data) ∧
      (c.op ≠ 1#4 → (encode i).data = 0)

/-- The opcode map as match and mask over CW, with arg the low 8 bits as an unsigned integer; a word that matches none
of the three is illegal (30_encoding.md R43, R44). -/
def Obligations.DecodeIsMatchAndMask : Prop :=
  ∀ c : Command,
    (c.word &&& 0xFF00 = 0x1000 → decode c = .ok (.ldlane (c.word.toNat % 256) c.data)) ∧
    (c.word &&& 0xFF00 = 0x2000 → decode c = .ok (.rdlane (c.word.toNat % 256))) ∧
    (c.word &&& 0xFF00 = 0x3000 → decode c = .ok (.permute (c.word.toNat % 256))) ∧
    (c.word &&& 0xFF00 ≠ 0x1000 → c.word &&& 0xFF00 ≠ 0x2000 → c.word &&& 0xFF00 ≠ 0x3000 →
      ∃ e, decode c = .error e)

/-- The encoding of a command is (op << 12) | arg with `rsv` = 0, and CD is the value of an LDLANE and 0 otherwise
(30_encoding.md R41, R47). -/
def Obligations.EncodedWordIsOpcodeAndArgument : Prop :=
  ∀ n : Nat, n ≤ 255 →
    (∀ value : Word, (encode (.ldlane n value)).word.toNat = 1 * 2 ^ 12 ||| n ∧
      (encode (.ldlane n value)).data = value) ∧
    ((encode (.rdlane n)).word.toNat = 2 * 2 ^ 12 ||| n ∧ (encode (.rdlane n)).data = 0) ∧
    ((encode (.permute n)).word.toNat = 3 * 2 ^ 12 ||| n ∧ (encode (.permute n)).data = 0) ∧
    (encode (.ldlane n 0)).rsv = 0#4 ∧ (encode (.rdlane n)).rsv = 0#4 ∧ (encode (.permute n)).rsv = 0#4

/-- CD does not enter the decoding of any word but LDLANE's, nor what the engine then does (30_encoding.md R41; D28):
two engines that differ only in the CD of the command on their ports differ, after their next step, in nothing. -/
def Obligations.UnusedDataWordIsIgnored : Prop :=
  ∀ (s : State) (w : BitVec 16) (d d' : Word) (rest : List Command), Ready s → w.extractLsb' 12 4 ≠ 1#4 →
    step { s with offered := ⟨w, d⟩ :: rest } = step { s with offered := ⟨w, d'⟩ :: rest }

/-- Words written out from the encodings: the three examples of 45_host_commands.md R89, R90 and 44_round_and_permute.md
R78, and reserved words. -/
def Obligations.WrittenOutWordsDecode : Prop :=
  decode ⟨0b0001000000000011, 0x0123456789ABCDEF⟩ = .ok (.ldlane 3 0x0123456789ABCDEF) ∧
  decode ⟨0b0010000000000011, 0⟩ = .ok (.rdlane 3) ∧
  decode ⟨0b0011000000011000, 0⟩ = .ok (.permute 24) ∧
  decode ⟨0b0011000011111111, 0⟩ = .ok (.permute 255) ∧
  decode ⟨0b0011000100011000, 0⟩ = .error .reservedBits ∧
  decode ⟨0b0000000000000000, 0⟩ = .error .reservedOpcode ∧
  decode ⟨0b0100000000000000, 0⟩ = .error .reservedOpcode

/-! ## Lane operations and step functions -/

/-- The lane coordinates of 00_scope.md R7: lane x + 5y is column x, row y, and every lane is one of them. -/
def Obligations.LaneCoordinates : Prop :=
  (∀ x y : Fin 5, (laneAt x y).val = x.val + 5 * y.val ∧ colOf (laneAt x y) = x ∧ rowOf (laneAt x y) = y) ∧
  ∀ i : Fin 25, (colOf i).val = i.val % 5 ∧ (rowOf i).val = i.val / 5 ∧ laneAt (colOf i) (rowOf i) = i

/-- The rotate of 00_scope.md R6: its arithmetic form, where each bit goes, and that the engine only rotates by 1 to 63. -/
def Obligations.RotlMovesEveryBit : Prop :=
  (∀ (v : Word) (n : Nat), 1 ≤ n → n ≤ 63 →
    (rotl v n).toNat = v.toNat * 2 ^ n % 2 ^ 64 + v.toNat / 2 ^ (64 - n) ∧
    ∀ i : Nat, i < 64 → (rotl v n).getLsbD ((i + n) % 64) = v.getLsbD i) ∧
  ∀ i : Fin 24, 1 ≤ tables.rotc[i] ∧ tables.rotc[i] ≤ 63

/-- Theta (40_theta.md R56 to R59): the parity of a column is the XOR of its five lanes in STD, and in MUL rows 0 and 1
XORed with the integer product of rows 2 to 4 reduced modulo 2^64 (so no order of the factors and no early reduction
shows); every lane of column c is then XORed with D[c], made of the parities, on entry, of the two neighbour columns. -/
def Obligations.ThetaByVariant : Prop :=
  ∀ (v : Variant) (S : Lanes) (c k : Fin 5),
    let bc : Fin 5 → Word := fun x =>
      match v with
      | .std => S[laneAt x 0] ^^^ S[laneAt x 1] ^^^ S[laneAt x 2] ^^^ S[laneAt x 3] ^^^ S[laneAt x 4]
      | .mul => S[laneAt x 0] ^^^ S[laneAt x 1] ^^^
          BitVec.ofNat 64 (S[laneAt x 2].toNat * S[laneAt x 3].toNat * S[laneAt x 4].toNat)
    thetaParity v S c = bc c ∧
      (theta v S)[laneAt c k] = S[laneAt c k] ^^^ (bc (c + 4) ^^^ rotl (bc (c + 1)) 1)

/-- Consequences of Theta's definition, 40_theta.md R60 (a) to (f), in its order. -/
def Obligations.ThetaConsequences : Prop :=
  (∀ v : Variant, theta v zeroLanes = zeroLanes) ∧
  (∀ (S : Lanes) (c : Fin 5), (S[laneAt c 2] = 0 ∨ S[laneAt c 3] = 0 ∨ S[laneAt c 4] = 0) →
    thetaParity .mul S c = S[laneAt c 0] ^^^ S[laneAt c 1]) ∧
  ((0x8000000000000000 : Word) * 2 * 1 = 0) ∧
  (∀ (S : Lanes) (c : Fin 5), thetaParity .std S c = thetaParity .mul S c ↔
    S[laneAt c 2] ^^^ S[laneAt c 3] ^^^ S[laneAt c 4] = S[laneAt c 2] * S[laneAt c 3] * S[laneAt c 4]) ∧
  rotl 0x8000000000000000 1 = 1 ∧
  (∀ A B : Lanes, theta .std (xorLanes A B) = xorLanes (theta .std A) (theta .std B)) ∧
  ¬ ∀ A B : Lanes, theta .mul (xorLanes A B) = xorLanes (theta .mul A) (theta .mul B)

/-- From the all-zero state the two variants agree after 1 and 2 rounds and differ after 3 (40_theta.md R60 (g)). -/
def Obligations.VariantsPartAtRoundThree : Prop :=
  runRounds tables .std 1 (by decide) zeroLanes = runRounds tables .mul 1 (by decide) zeroLanes ∧
  runRounds tables .std 2 (by decide) zeroLanes = runRounds tables .mul 2 (by decide) zeroLanes ∧
  runRounds tables .std 3 (by decide) zeroLanes ≠ runRounds tables .mul 3 (by decide) zeroLanes

/-- The tables' properties (20_memory.md R30). -/
def Obligations.TableProperties : Prop :=
  (∀ i : Fin 24, 1 ≤ tables.rotc[i] ∧ tables.rotc[i] ≤ 62) ∧
  (∀ i j : Fin 24, tables.rotc[i] = tables.rotc[j] → i = j) ∧
  (∀ i : Fin 24, 1 ≤ (tables.piln[i]).val ∧ (tables.piln[i]).val ≤ 24) ∧
  (∀ i j : Fin 24, tables.piln[i] = tables.piln[j] → i = j) ∧
  (∀ l : Fin 25, l ≠ 0 → ∃ i : Fin 24, tables.piln[i] = l) ∧
  tables.piln[23] = 1

/-- The chain of Rho+Pi is the parallel assignment of 41_rho_pi.md R63: every source is a lane from before, lane 0 is
unchanged, and the listing by destination lane holds, each of the lanes 1 to 24 once a destination and once a source. -/
def Obligations.RhoPiIsParallelAssignment : Prop :=
  (∀ S : Lanes, (rhoPi tables S)[0] = S[0] ∧
    (∀ i : Fin 24, (rhoPi tables S)[tables.piln[i]] = rotl S[chainSource tables i] tables.rotc[i]) ∧
    ∀ p ∈ rhoPiTriples, (rhoPi tables S)[p.1] = rotl S[p.2.1] p.2.2) ∧
  ∀ l : Fin 25, l ≠ 0 →
    (rhoPiTriples.filter fun p => p.1 = l).length = 1 ∧ (rhoPiTriples.filter fun p => p.2.1 = l).length = 1

/-- The same for every table whose 24 destinations are pairwise distinct, which is what R63's argument rests on and
R66's caveat is about (41_rho_pi.md R62, R63, R66): the sequential chain and the parallel assignment agree, and a lane
that is no destination keeps its value. -/
def Obligations.RhoPiChainForDistinctDestinations : Prop :=
  ∀ tab : Config.Tables, (∀ i j : Fin 24, tab.piln[i] = tab.piln[j] → i = j) → ∀ S : Lanes,
    (∀ i : Fin 24, (rhoPi tab S)[tab.piln[i]] = rotl S[chainSource tab i] tab.rotc[i]) ∧
    ∀ l : Fin 25, (∀ i : Fin 24, tab.piln[i] ≠ l) → (rhoPi tab S)[l] = S[l]

/-- Lane 0 is neither read nor written by Rho+Pi (41_rho_pi.md R64). -/
def Obligations.RhoPiLeavesLaneZero : Prop :=
  (∀ i : Fin 24, tables.piln[i] ≠ 0) ∧
  ∀ (S : Lanes) (w : Word), (rhoPi tables S)[0] = S[0] ∧ rhoPi tables (S.set 0 w) = (rhoPi tables S).set 0 w

/-- Rho+Pi is a bijection on states, linear over XOR, and fixes the all-zero state (41_rho_pi.md R65). -/
def Obligations.RhoPiIsLinearBijection : Prop :=
  Function.Injective (rhoPi tables) ∧ Function.Surjective (rhoPi tables) ∧
  (∀ A B : Lanes, rhoPi tables (xorLanes A B) = xorLanes (rhoPi tables A) (rhoPi tables B)) ∧
  rhoPi tables zeroLanes = zeroLanes

/-- Chi, with every right-hand side from before it (42_chi.md R68). -/
def Obligations.ChiOnOldRow : Prop :=
  ∀ (S : Lanes) (x y : Fin 5),
    (chi S)[laneAt x y] = S[laneAt x y] ^^^ (~~~S[laneAt (x + 1) y] &&& S[laneAt (x + 2) y])

/-- Consequences of Chi's definition, 42_chi.md R70 (a) to (e), in its order: bitwise along a row, five equal lanes
unchanged (so zero and all-ones states are fixed), one non-zero lane, a bijection, not linear. -/
def Obligations.ChiConsequences : Prop :=
  (∀ (S : Lanes) (x y : Fin 5) (b : Nat), b < 64 →
    (chi S)[laneAt x y].getLsbD b =
      (S[laneAt x y].getLsbD b ^^ (!S[laneAt (x + 1) y].getLsbD b && S[laneAt (x + 2) y].getLsbD b))) ∧
  (∀ (S : Lanes) (y : Fin 5), (∀ x : Fin 5, S[laneAt x y] = S[laneAt 0 y]) →
    ∀ x : Fin 5, (chi S)[laneAt x y] = S[laneAt x y]) ∧
  chi zeroLanes = zeroLanes ∧
  chi (Vector.replicate 25 0xFFFFFFFFFFFFFFFF) = Vector.replicate 25 0xFFFFFFFFFFFFFFFF ∧
  (∀ (S : Lanes) (x y : Fin 5), (∀ x' : Fin 5, x' ≠ x → S[laneAt x' y] = 0) →
    (chi S)[laneAt x y] = S[laneAt x y] ∧ (chi S)[laneAt (x + 3) y] = S[laneAt x y] ∧
    ∀ x' : Fin 5, x' ≠ x → x' ≠ x + 3 → (chi S)[laneAt x' y] = 0) ∧
  (Function.Injective chi ∧ Function.Surjective chi) ∧
  ¬ ∀ A B : Lanes, chi (xorLanes A B) = xorLanes (chi A) (chi B)

/-- Iota changes lane 0 alone, by the round's constant, and reads no other lane (43_iota.md R72). -/
def Obligations.IotaTouchesLaneZero : Prop :=
  ∀ (r : Fin 24) (S : Lanes),
    (iota tables r S)[0] = S[0] ^^^ tables.rc[r] ∧ ∀ l : Fin 25, l ≠ 0 → (iota tables r S)[l] = S[l]

/-- Consequences of Iota's definition, 43_iota.md R74 (a) to (d), in its order. -/
def Obligations.IotaConsequences : Prop :=
  (∀ (r : Fin 24) (S : Lanes), iota tables r (iota tables r S) = S) ∧
  (∀ r : Fin 24, tables.rc[r] ≠ 0 ∧ iota tables r zeroLanes = zeroLanes.set 0 tables.rc[r]) ∧
  (∀ v : Variant, theta v zeroLanes = zeroLanes) ∧ rhoPi tables zeroLanes = zeroLanes ∧ chi zeroLanes = zeroLanes ∧
  (∀ v : Variant, runRound tables v 0 zeroLanes = zeroLanes.set 0 1) ∧
  (tables.rc[(5 : Fin 24)] = 0x0000000080000001 ∧ tables.rc[(22 : Fin 24)] = 0x0000000080000001 ∧
    tables.rc[(6 : Fin 24)] = 0x8000000080008081 ∧ tables.rc[(20 : Fin 24)] = 0x8000000080008081) ∧
  (∀ v : Variant, runRound tables v 5 = runRound tables v 22 ∧ runRound tables v 6 = runRound tables v 20) ∧
  (∀ r q : Fin 24, tables.rc[r] = tables.rc[q] →
    r = q ∨ (r = 5 ∧ q = 22) ∨ (r = 22 ∧ q = 5) ∨ (r = 6 ∧ q = 20) ∨ (r = 20 ∧ q = 6)) ∧
  ∀ (r : Fin 24) (S : Lanes) (b : Nat), (iota tables r S)[0].getLsbD b ≠ S[0].getLsbD b →
    b = 0 ∨ b = 1 ∨ b = 3 ∨ b = 7 ∨ b = 15 ∨ b = 31 ∨ b = 63

/-- A round is the four step functions in order, and `runRounds` n, in whose terms PermuteIsAccepted and
IteratedPermuteRoundByRound give what a PERMUTE runs, is the first n of ROUND(0) to ROUND(23), one after another from
the first (44_round_and_permute.md R76, R77). -/
def Obligations.RoundsCountUpFromZero : Prop :=
  (∀ (tab : Config.Tables) (v : Variant) (r : Fin 24) (S : Lanes),
    runRound tab v r S = iota tab r (chi (rhoPi tab (theta v S)))) ∧
  ∀ (tab : Config.Tables) (v : Variant) (n : Nat) (h : n ≤ 24) (S : Lanes),
    runRounds tab v n h S = ((List.finRange 24).take n).foldl (fun T r => runRound tab v r T) S

/-! ## LDLANE and RDLANE -/

/-- LDLANE (45_host_commands.md R89): its words are 0x1000 | idx; a legal index completes with all 64 bits of one lane
written and nothing else but the response (OK, 0) and the lane's ghost bit; an index above 24 is ERR_INDEX with no other
change.  The ghost bit `written` (10_state.md R21) is the model's choice, log entry 2. -/
def Obligations.LdlaneWritesOneLane : Prop :=
  ∀ (s : State) (idx : Nat) (value : Word),
    (∀ h : idx < 25, exec (.ldlane idx value) s = .next { s with
      lanes := s.lanes.set idx value, written := s.written.set idx true, rsp := some ⟨.ok, 0⟩ }) ∧
    (24 < idx → exec (.ldlane idx value) s = .next { s with rsp := some ⟨.errIndex, 0⟩ }) ∧
    (idx ≤ 255 → decode ⟨0x1000 ||| BitVec.ofNat 16 idx, value⟩ = .ok (.ldlane idx value))

/-- LDLANE's frame: every other lane, every register, the ports and the host's side stay (45_host_commands.md R89;
10_state.md R10: the lanes do not overlap). -/
def Obligations.LdlaneFrame : Prop :=
  ∀ (s t : State) (idx : Nat) (value : Word), exec (.ldlane idx value) s = .next t →
    (∀ j : Fin 25, j.val ≠ idx → t.lanes[j] = s.lanes[j] ∧ t.written[j] = s.written[j]) ∧
    t.ridx = s.ridx ∧ t.rnds = s.rnds ∧ t.busy = s.busy ∧ t.offered = s.offered ∧ t.rspReady = s.rspReady ∧
    t.rst = s.rst ∧ t.params = s.params ∧ t.received = s.received ∧ t.resets = s.resets

/-- RDLANE (45_host_commands.md R90): its words are 0x2000 | idx, with any CD; a legal index completes with (OK, S[idx])
and no other change; an index above 24 is ERR_INDEX with no other change. -/
def Obligations.RdlaneReturnsLane : Prop :=
  ∀ (s : State) (idx : Nat),
    (∀ h : idx < 25, exec (.rdlane idx) s = .next { s with rsp := some ⟨.ok, s.lanes[idx]⟩ }) ∧
    (24 < idx → exec (.rdlane idx) s = .next { s with rsp := some ⟨.errIndex, 0⟩ }) ∧
    (idx ≤ 255 → ∀ cd : Word, decode ⟨0x2000 ||| BitVec.ofNat 16 idx, cd⟩ = .ok (.rdlane idx))

/-- A read after a write, on the engine: with an LDLANE of lane i and then an RDLANE of lane j on its port, a ready engine
accepts the first, delivers its response and accepts the second, whose response is the value when j = i and lane j as it
was otherwise (45_host_commands.md R88, R89, R90; 10_state.md R10).  The delivery goes into the list of log entry 8. -/
def Obligations.RdlaneAfterLdlane : Prop :=
  ∀ (s : State) (c d : Command) (rest : List Command) (i j : Fin 25) (value : Word), Ready s → s.rspReady = true →
    s.offered = c :: d :: rest → decode c = .ok (.ldlane i.val value) → decode d = .ok (.rdlane j.val) →
    ∃ u, run 3 s = .next u ∧ u.rsp = some ⟨.ok, if j = i then value else s.lanes[j]⟩ ∧ u.lanes = s.lanes.set i value ∧
      u.offered = rest ∧ u.received = s.received ++ [⟨.ok, 0⟩]

/-- LDLANE and RDLANE are idempotent (20_memory.md R33), on the engine: with the same one twice on its port, whatever its
index, a ready engine answers the first with a response r, delivers it and answers the second in the same state as the
first, with r waiting again.  Only the port and the list of responses received (log entry 8) tell the two apart. -/
def Obligations.LaneCommandsAreIdempotent : Prop :=
  ∀ (s : State) (c : Command) (rest : List Command) (i : Instr), Ready s → s.rspReady = true →
    s.offered = c :: c :: rest → decode c = .ok i → (∀ n, i ≠ .permute n) →
    ∃ t r, run 1 s = .next t ∧ t.rsp = some r ∧
      run 3 s = .next { t with offered := rest, received := t.received ++ [r] }

/-- The order in which a host loads different lanes does not matter (30_encoding.md R48, 70_reset_and_hazards.md R110),
on the engine: whatever order a ready engine is offered LDLANEs of distinct lanes in, it comes to rest in one and the same
state, in which each loaded lane holds its value and every other lane what it held, with one (OK, 0) for each.  (The
responses received are the list of log entry 8.) -/
def Obligations.LoadOrderIsIrrelevant : Prop :=
  ∀ (s : State) (l m : List (Fin 25 × Word)), Ready s → s.rspReady = true → l.Perm m → (l.map Prod.fst).Nodup →
    ∃ t, run (2 * l.length) { s with offered := commands (l.map fun p => Instr.ldlane p.1.val p.2) } = .next t ∧
      run (2 * m.length) { s with offered := commands (m.map fun p => Instr.ldlane p.1.val p.2) } = .next t ∧
      Ready t ∧ t.offered = [] ∧ (∀ p ∈ l, t.lanes[p.1] = p.2) ∧
      (∀ j : Fin 25, j ∉ l.map Prod.fst → t.lanes[j] = s.lanes[j]) ∧
      t.received = s.received ++ List.replicate l.length ⟨.ok, 0⟩

/-! ## PERMUTE -/

/-- A legal PERMUTE completes its acceptance: an ITERATED engine sets RNDS, RIDX and BUSY and nothing else; an UNROLLED
one runs the rounds and answers (OK, 0) at once (44_round_and_permute.md R78, R82, R83).  Everything not named stays.  The
ghost bits are log entry 2's; that an UNROLLED engine holds RIDX and RNDS is the model's choice, log entry 10. -/
def Obligations.PermuteIsAccepted : Prop :=
  ∀ (s : State) (n : Nat) (h : n ≤ 24),
    (s.params.impl = .iterated → exec (.permute n) s = .next { s with
      rnds := BitVec.ofNat 5 n, ridx := 0, busy := true }) ∧
    (s.params.impl = .unrolled → exec (.permute n) s = .next { s with
      lanes := runRounds tables s.params.variant n h s.lanes,
      written := if n = 0 then s.written else Vector.replicate 25 s.allWritten,
      rnds := BitVec.ofNat 5 n, ridx := BitVec.ofNat 5 n, rsp := some ⟨.ok, 0⟩ })

/-- A round count above 24 is rejected with ERR_ROUNDS before anything changes, all such counts alike: no truncation,
no reduced count (44_round_and_permute.md R80). -/
def Obligations.PermuteAbove24IsRejected : Prop :=
  ∀ (s : State) (n : Nat), 24 < n → exec (.permute n) s = .next { s with rsp := some ⟨.errRounds, 0⟩ }

/-- The ITERATED engine round by round (44_round_and_permute.md R82): after acceptance and k round steps BUSY = 1,
RIDX = k, RNDS = n, the lanes are those after rounds 0 to k - 1 and the command port has not moved; after exactly n
round steps the completion step clears BUSY and answers (OK, 0).  Nothing else changes, but that the model's ghost bits
`written` (log entry 2) are left open here. -/
def Obligations.IteratedPermuteRoundByRound : Prop :=
  ∀ (s : State) (c : Command) (rest : List Command) (n : Nat) (h : n ≤ 24),
    Ready s → s.params.impl = .iterated → s.offered = c :: rest → decode c = .ok (.permute n) →
    (∀ (k : Nat) (hk : k ≤ n), ∃ w, run (k + 1) s = .next { s with
      offered := rest, lanes := runRounds tables s.params.variant k (hk.trans h) s.lanes, written := w,
      rnds := BitVec.ofNat 5 n, ridx := BitVec.ofNat 5 k, busy := true }) ∧
    ∃ w, run (n + 2) s = .next { s with
      offered := rest, lanes := runRounds tables s.params.variant n h s.lanes, written := w,
      rnds := BitVec.ofNat 5 n, ridx := BitVec.ofNat 5 n, rsp := some ⟨.ok, 0⟩ }

/-- The two organisations leave the same lanes and give the same response, in n + 2 steps against one: the micro-steps
of R82 equal R79 (44_round_and_permute.md R79, R83).  `u` is `s` but for IMPL, which stays its own.
That RIDX and RNDS agree as well is the model's choice, log entry 10. -/
def Obligations.OrganisationsAgreeOnPermute : Prop :=
  ∀ (s u : State) (c : Command) (rest : List Command) (n : Nat), n ≤ 24 → Ready s → s.params.impl = .iterated →
    u = { s with params := { s.params with impl := .unrolled } } → s.offered = c :: rest →
    decode c = .ok (.permute n) →
    ∃ t, run (n + 2) s = .next t ∧ run 1 u = .next { t with params := u.params } ∧ t.rsp = some ⟨.ok, 0⟩ ∧
      t.busy = false

/-- PERMUTE 0 is legal and is the identity on the lanes, unwritten ones too: in either organisation the response is
(OK, 0) and neither a lane nor a ghost bit changes (44_round_and_permute.md R81; 10_state.md R21).  The
ghost bits `written` are the model's choice, log entry 2. -/
def Obligations.PermuteZeroIsIdentity : Prop :=
  ∀ (s : State) (c : Command) (rest : List Command), Ready s → s.offered = c :: rest →
    decode c = .ok (.permute 0) →
    ∃ k t, run k s = .next t ∧ t.rsp = some ⟨.ok, 0⟩ ∧ t.offered = rest ∧ t.busy = false ∧ t.lanes = s.lanes ∧
      t.written = s.written

/-- A PERMUTE's result depends on the lanes before it, the rounds and the variant alone: not on IMPL, not on earlier
commands, not on anything else in the state (00_scope.md R8; 44_round_and_permute.md R85). -/
def Obligations.PermuteIsPure : Prop :=
  ∀ (s u : State) (c d : Command) (rest rest' : List Command) (n : Nat), n ≤ 24 → Ready s → Ready u →
    s.lanes = u.lanes → s.params.variant = u.params.variant → s.offered = c :: rest → u.offered = d :: rest' →
    decode c = .ok (.permute n) → decode d = .ok (.permute n) →
    ∃ k l t w, run k s = .next t ∧ run l u = .next w ∧ t.lanes = w.lanes ∧ t.rsp = some ⟨.ok, 0⟩ ∧
      w.rsp = some ⟨.ok, 0⟩

/-- Every PERMUTE starts again from round 0 (44_round_and_permute.md R84, R77), in both organisations: a ready engine with
PERMUTE a and PERMUTE b on its port runs rounds 0 to a - 1, answers, and then runs rounds 0 to b - 1.  In an ITERATED
engine the second acceptance leaves RIDX = 0, wherever the first PERMUTE ended.  On the zero state PERMUTE 1 twice is not
PERMUTE 2.  (The response delivered between the two goes into the list of log entry 8.) -/
def Obligations.PermuteRestartsAtRoundZero : Prop :=
  ∀ (s : State) (c d : Command) (rest : List Command) (a b : Nat) (ha : a ≤ 24) (hb : b ≤ 24),
    Ready s → s.rspReady = true → s.offered = c :: d :: rest →
    decode c = .ok (.permute a) → decode d = .ok (.permute b) →
    (∃ t, run (match s.params.impl with
        | .iterated => a + b + 5
        | .unrolled => 3) s = .next t ∧
      t.lanes = runRounds tables s.params.variant b hb (runRounds tables s.params.variant a ha s.lanes) ∧
      t.rsp = some ⟨.ok, 0⟩ ∧ t.received = s.received ++ [⟨.ok, 0⟩] ∧ t.busy = false ∧ t.offered = rest ∧
      (s.lanes = zeroLanes → a = 1 → b = 1 →
        t.lanes ≠ runRounds tables s.params.variant 2 (by decide) s.lanes)) ∧
    (s.params.impl = .iterated → ∃ u, run (a + 4) s = .next u ∧ u.busy = true ∧ u.ridx = 0 ∧
      u.rnds = BitVec.ofNat 5 b ∧ u.offered = rest ∧ u.lanes = runRounds tables s.params.variant a ha s.lanes)

/-- The known answer as a command sequence: LDSTATE of 25 zeros, PERMUTE 24, RDSTATE on an STD engine of either
organisation answers the published Keccak-f[1600] state (44_round_and_permute.md R86; vector K1).  The answers are read
off the list of responses received, which is the model's, log entry 8. -/
def Obligations.KnownAnswerOfStandardVariant : Prop :=
  ∀ s : State, Ready s → s.rspReady = true → s.params.variant = .std →
    s.offered = commands (ldstate zeroLanes ++ keccakf ++ rdstate) →
    ∃ k t, run k s = .next t ∧ t.offered = [] ∧ t.idle = true ∧ t.lanes = knownAnswer ∧
      t.received = s.received ++ List.replicate 26 ⟨.ok, 0⟩ ++ knownAnswer.toList.map fun w => ⟨.ok, w⟩

/-- LDSTATE loads and RDSTATE reads the whole lane file (30_encoding.md R48): whatever the lanes were, after LDSTATE v,
PERMUTE n, RDSTATE the host has 26 responses (OK, 0) and then the 25 lanes of v after n rounds, and every lane is
written (70_reset_and_hazards.md R110; the ghost bits of log entry 2). -/
def Obligations.LoadPermuteReadBack : Prop :=
  ∀ (s : State) (v : Lanes) (n : Nat) (h : n ≤ 24), Ready s → s.rspReady = true →
    s.offered = commands (ldstate v ++ [.permute n] ++ rdstate) →
    ∃ k t, run k s = .next t ∧ t.offered = [] ∧ t.idle = true ∧ t.allWritten = true ∧
      t.lanes = runRounds tables s.params.variant n h v ∧
      t.received = s.received ++ List.replicate 26 ⟨.ok, 0⟩ ++
        (runRounds tables s.params.variant n h v).toList.map fun w => ⟨.ok, w⟩

/-! ## The ports, errors and reset -/

/-- When the command on the port decodes, the next step of a ready engine takes it off the port and is exec of it
(45_host_commands.md R88; 30_encoding.md R50). -/
def Obligations.StepRunsDecodedCommand : Prop :=
  ∀ (s : State) (c : Command) (rest : List Command) (i : Instr), Ready s → s.offered = c :: rest →
    decode c = .ok i → step s = exec i { s with offered := rest }

/-- A command placed on the port runs in the very next step, from every state (the model's `withFetchWord`, log
entry 5; 45_host_commands.md R88): the step is exec of it with the engine idle and the port as it was. -/
def Obligations.PlacedCommandRunsNext : Prop :=
  ∀ (s : State) (nbits w : Nat) (i : Instr), decodeTableWord nbits w = some i →
    step (s.withFetchWord nbits w) = exec i { s with rst := false, rsp := none, busy := false }

/-- An illegal word is accepted like any other, changes no state and gets (ERR_ILLEGAL, 0), whatever arg and CD are; the
rule's three examples are such words (45_host_commands.md R91). -/
def Obligations.IllegalWordIsRejected : Prop :=
  (∀ (s : State) (c : Command) (rest : List Command), Ready s → s.offered = c :: rest →
    (c.rsv ≠ 0#4 ∨ (c.op ≠ 1#4 ∧ c.op ≠ 2#4 ∧ c.op ≠ 3#4)) →
    step s = .next { s with offered := rest, rsp := some ⟨.errIllegal, 0⟩ }) ∧
  ∀ d : Word, errorOf ⟨0x0000, d⟩ = some .errIllegal ∧ errorOf ⟨0x3118, d⟩ = some .errIllegal ∧
    errorOf ⟨0x4000, d⟩ = some .errIllegal

/-- A rejected command changes no architectural state: the response (code, 0) is its whole effect, the code chosen in
the order of R99, and once it is delivered the engine is as if the command had not been sent (60_exceptions.md R94, R95,
R96, R99, R100, R101).  Its response is then in the list of responses received, which is the model's, log entry 8. -/
def Obligations.RejectionIsPrecise : Prop :=
  ∀ (s : State) (c : Command) (rest : List Command) (e : RspCode), Ready s → s.offered = c :: rest →
    errorOf c = some e →
    step s = .next { s with offered := rest, rsp := some ⟨e, 0⟩ } ∧
    (s.rspReady = true → run 2 s = .next { s with offered := rest, received := s.received ++ [⟨e, 0⟩] })

/-- The priority of the checks (60_exceptions.md R99): the decode check first, then the range check of a legal word's
opcode; 0x31FF, PERMUTE's opcode with rsv = 1 and arg = 255, is ERR_ILLEGAL and not ERR_ROUNDS; and a reset overrides
whatever is in progress or on the port.  That a reset leaves what is offered on the port is the model's choice, log
entry 7. -/
def Obligations.DecodeCheckComesFirst : Prop :=
  (∀ (s : State) (c : Command) (rest : List Command), Ready s → s.offered = c :: rest →
    ((c.rsv ≠ 0#4 ∨ (c.op ≠ 1#4 ∧ c.op ≠ 2#4 ∧ c.op ≠ 3#4) ∨ c.word = 0x31FF) →
      step s = .next { s with offered := rest, rsp := some ⟨.errIllegal, 0⟩ }) ∧
    (c.rsv = 0#4 → c.op = 3#4 → 24 < c.arg.toNat →
      step s = .next { s with offered := rest, rsp := some ⟨.errRounds, 0⟩ }) ∧
    (c.rsv = 0#4 → c.op = 1#4 ∨ c.op = 2#4 → 24 < c.arg.toNat →
      step s = .next { s with offered := rest, rsp := some ⟨.errIndex, 0⟩ })) ∧
  ∀ s : State, s.rst = true → ∃ t, step s = .next t ∧ t.busy = false ∧ t.rsp = none ∧ t.offered = s.offered

/-- A waiting response is delivered when the host is ready for it and makes the engine idle; until then nothing moves
(30_encoding.md R49, R50).  The list of responses received is the model's, log entry 8. -/
def Obligations.ResponseIsDelivered : Prop :=
  ∀ (s : State) (r : Response), s.rst = false → s.rsp = some r →
    (s.rspReady = true → step s = .next { s with rsp := none, received := s.received ++ [r] }) ∧
    (s.rspReady = false → step s = .next s)

/-- A host that offers no command causes nothing (45_host_commands.md R88). -/
def Obligations.IdleEngineDoesNothing : Prop :=
  ∀ s : State, Ready s → s.offered = [] → step s = .next s

/-- While the engine is not idle an offered command has no effect and stays on the port: what stands there changes
nothing in the step, and the step leaves it there (45_host_commands.md R88; 30_encoding.md R50; 10_state.md R15). -/
def Obligations.OfferedCommandWaits : Prop :=
  ∀ (s t : State) (cs : List Command), s.rst = false → s.cmdReady = false → step s = .next t →
    t.offered = s.offered ∧ step { s with offered := cs } = .next { t with offered := cs }

/-- Exactly one response for each accepted command, in order: over any step but a reset, commands taken off the port are
commands in flight or answered, and the responses received only grow, by the response that was waiting
(30_encoding.md R42).  `offered` and `received` are the model's lists, log entries 5 and 8. -/
def Obligations.OneResponsePerCommand : Prop :=
  ∀ s t : State, Inv s → s.rst = false → step s = .next t →
    t.offered.length + t.received.length + inFlight t =
      s.offered.length + s.received.length + inFlight s ∧
    (t.received = s.received ∨ ∃ r, s.rsp = some r ∧ t.received = s.received ++ [r] ∧ t.rsp = none)

/-- Reset is one atomic step at any point, idle or busy: BUSY, RIDX and RNDS are 0, no response is pending or delivered,
cmd_ready = 1, the lanes are unspecified, and VARIANT and IMPL stay (70_reset_and_hazards.md R107, R108, R109).
That the request is taken once and the host's inputs stay is the model's choice, log entry 7; `written` is the ghost
bits of log entry 2. -/
def Obligations.ResetAbandonsEverything : Prop :=
  ∀ s : State, s.rst = true → ∃ t, step s = .next t ∧ t.busy = false ∧ t.ridx = 0 ∧ t.rnds = 0 ∧ t.rsp = none ∧
    t.cmdReady = true ∧ t.received = s.received ∧ t.params = s.params ∧ t.rst = false ∧ t.offered = s.offered ∧
    t.rspReady = s.rspReady ∧ ∀ i : Fin 25, t.written[i] = false

/-- The state after reset (10_state.md R20): BUSY = RIDX = RNDS = 0, no response pending, and no lane holds a specified
value (the ghost bits of log entry 2; what the lanes hold is free, log entry 1). -/
def Obligations.ResetState : Prop :=
  State.reset.busy = false ∧ State.reset.ridx = 0 ∧ State.reset.rnds = 0 ∧ State.reset.rsp = none ∧
    State.reset.cmdReady = true ∧ ∀ i : Fin 25, State.reset.written[i] = false

/-! ## The whole machine -/

/-- The invariant holds after reset. -/
def Obligations.ResetKeepsTheInvariant : Prop := Inv State.reset

/-- Every step keeps the invariant: RNDS at most 24, RIDX at most RNDS and equal to it when idle, no response while busy,
data 0 in every error response (10_state.md R12, R14, R15; 30_encoding.md R42, R50).  That RIDX = RNDS in an idle
UNROLLED engine is the model's choice, log entry 10. -/
def Obligations.StepKeepsTheInvariant : Prop :=
  ∀ s t : State, Inv s → step s = .next t → Inv t

/-- In such states the engine never stops: there is no fault and no refusal, whatever is on the port
(60_exceptions.md R97; 70_reset_and_hazards.md R116). -/
def Obligations.EngineNeverStops : Prop :=
  ∀ s : State, Inv s → ∃ t, step s = .next t

/-- A busy engine finishes (70_reset_and_hazards.md R116; 44_round_and_permute.md R82): after RNDS - RIDX round steps and
the completion step it answers (OK, 0), with the same commands still on the port. -/
def Obligations.BusyEngineFinishes : Prop :=
  ∀ s : State, Inv s → s.rst = false → s.busy = true →
    ∃ t, run (s.rnds.toNat - s.ridx.toNat + 1) s = .next t ∧ t.busy = false ∧ t.rsp = some ⟨.ok, 0⟩ ∧
      t.ridx = s.rnds ∧ t.rnds = s.rnds ∧ t.offered = s.offered ∧ t.received = s.received

/-- Whatever stream of words the host offers, an engine of either organisation serves it as the table of R92 says: it
comes to rest with the port empty, the lanes of the sequential execution, and exactly its responses delivered in order
(20_memory.md R36; 30_encoding.md R42; 44_round_and_permute.md R79; 45_host_commands.md R92). -/
def Obligations.EngineServesEveryScript : Prop :=
  ∀ s : State, Ready s → s.rspReady = true →
    ∃ k t, run k s = .next t ∧ t.offered = [] ∧ Ready t ∧
      t.lanes = (hostScript s.params.variant s.lanes s.offered).1 ∧
      t.received = s.received ++ (hostScript s.params.variant s.lanes s.offered).2

/-- The two organisations are indistinguishable to the host over any stream of commands (44_round_and_permute.md R83;
D10): engines that agree on lanes, VARIANT and what is offered come to rest with the same lanes and have answered the
same. -/
def Obligations.OrganisationsIndistinguishable : Prop :=
  ∀ s u : State, Ready s → Ready u → s.rspReady = true → u.rspReady = true → s.lanes = u.lanes →
    s.params.variant = u.params.variant → s.offered = u.offered →
    ∃ k l t w answers, run k s = .next t ∧ run l u = .next w ∧ t.offered = [] ∧ w.offered = [] ∧ t.lanes = w.lanes ∧
      t.received = s.received ++ answers ∧ w.received = u.received ++ answers ∧ answers.length = s.offered.length

/-- The lanes are written by two commands only (10_state.md R11): a step changes a lane only where it resets, accepts
an LDLANE of that lane, runs a round, or accepts an UNROLLED PERMUTE of at least one round. -/
def Obligations.LanesChangeOnlyBy : Prop :=
  ∀ (s t : State) (j : Fin 25), step s = .next t → t.lanes[j] ≠ s.lanes[j] →
    s.rst = true ∨ (s.busy = true ∧ s.rsp = none ∧ s.ridx < s.rnds) ∨
    ∃ c rest, Ready s ∧ s.offered = c :: rest ∧
      ((∃ value, decode c = .ok (.ldlane j.val value) ∧ t.lanes[j] = value) ∨
       ∃ n, decode c = .ok (.permute n) ∧ 1 ≤ n ∧ n ≤ 24 ∧ s.params.impl = .unrolled)

/-- A lane becomes specified only by an LDLANE to it, and a round with an unwritten lane leaves none specified
(10_state.md R21), as the ghost bits of log entry 2 say it. -/
def Obligations.SpecifiedOnlyByLdlane : Prop :=
  ∀ (s t : State) (j : Fin 25), step s = .next t →
    (t.written[j] = true → s.written[j] = true ∨
      ∃ c rest value, Ready s ∧ s.offered = c :: rest ∧ decode c = .ok (.ldlane j.val value)) ∧
    (s.rst = false → s.rsp = none → s.busy = true → s.ridx < s.rnds → s.allWritten = false → t.written[j] = false)

/-- VARIANT and IMPL are fixed when the engine is built: no step, reset included, changes them (00_scope.md R2;
70_reset_and_hazards.md R108). -/
def Obligations.ParametersNeverChange : Prop :=
  ∀ s t : State, step s = .next t → t.params = s.params

/-- Unspecified lanes never reach the host of a program that keeps R110's duty on its reads: two engines that differ only
in lanes not written since reset step to two that differ only so, and give the same responses, unless the step answers
an RDLANE of such a lane (10_state.md R21; 70_reset_and_hazards.md R110; U1).  The ghost bits are log entry 2's. -/
def Obligations.UnwrittenLanesNeverLeak : Prop :=
  ∀ s u t : State, AgreeOnWritten s u → step s = .next t →
    (∀ c rest idx, Ready s → s.offered = c :: rest → decode c = .ok (.rdlane idx) →
      usesOnlyWritten s (.rdlane idx) = true) →
    ∃ w, step u = .next w ∧ AgreeOnWritten t w ∧ w.rsp = t.rsp ∧ w.received = t.received

/-- The sequence of operations never depends on the values in the lanes (70_reset_and_hazards.md R117), nor on VARIANT:
engines with the same registers, inputs, IMPL and response codes, whatever their lanes, the data words of their responses
and their variants, step to engines with the same, or stop alike. -/
def Obligations.ControlIgnoresLanes : Prop :=
  ∀ s u : State, SameControl s u →
    match step s, step u with
    | .next t, .next w => SameControl t w
    | .fault f, .fault g => f = g
    | .refused f, .refused g => f = g
    | _, _ => False
end

