-- ==== Sys2Proof/Laws/Codec.lean ====
section
/-! SUPPORT. What the decoder and the encoder do, one lemma per function, so that proofs cite these and do not unfold
them. -/

namespace Sys2Proof

theorem extract_op (a b : BitVec 4) (c : BitVec 8) : (a ++ b ++ c).extractLsb' 12 4 = a := by
  rw [BitVec.extractLsb'_append_eq_of_le (by omega), BitVec.extractLsb'_append_eq_of_le (by omega)]
  exact BitVec.extractLsb'_eq_self

theorem extract_rsv (a b : BitVec 4) (c : BitVec 8) : (a ++ b ++ c).extractLsb' 8 4 = b := by
  rw [BitVec.extractLsb'_append_eq_of_le (by omega), BitVec.extractLsb'_append_eq_of_add_le (by omega)]
  exact BitVec.extractLsb'_eq_self

theorem extract_arg (a b : BitVec 4) (c : BitVec 8) : (a ++ b ++ c).extractLsb' 0 8 = c := by
  rw [BitVec.extractLsb'_append_eq_of_add_le (by omega)]
  exact BitVec.extractLsb'_eq_self

/-- The OR of R47 is the word of the three fields, `rsv` = 0: an operand up to 255 stays inside `arg`. -/
theorem or_arg (a : BitVec 4) {n : Nat} (h : n ≤ 255) :
    (a ++ 0#4 ++ 0#8) ||| BitVec.ofNat 16 n = a ++ 0#4 ++ BitVec.ofNat 8 n := by
  have hn : BitVec.ofNat 16 n = 0#4 ++ 0#4 ++ BitVec.ofNat 8 n := by
    apply BitVec.eq_of_toNat_eq
    simp only [BitVec.toNat_append, BitVec.toNat_ofNat]
    simp
    omega
  rw [hn, BitVec.or_append, BitVec.or_append]
  simp

@[simp] theorem op_encode (i : Instr) : (encode i).op = i.opcode := extract_op _ _ _

@[simp] theorem rsv_encode (i : Instr) : (encode i).rsv = 0#4 := extract_rsv _ _ _

@[simp] theorem arg_encode (i : Instr) : (encode i).arg = BitVec.ofNat 8 i.operand := extract_arg _ _ _

@[simp] theorem data_encode (i : Instr) : (encode i).data = i.dataWord := rfl

theorem wellFormed_iff (i : Instr) : i.wellFormed = true ↔ i.operand ≤ 255 := by simp [Instr.wellFormed]

/-- The operand of a well-formed command survives the 8-bit field (R43). -/
theorem arg_encode_toNat {i : Instr} (h : i.wellFormed = true) : (encode i).arg.toNat = i.operand := by
  rw [wellFormed_iff] at h
  rw [arg_encode, BitVec.toNat_ofNat, Nat.mod_eq_of_lt (by omega)]

/-- CW is its three fields (R41). -/
theorem word_eq_fields (c : Command) : c.word = c.op ++ c.rsv ++ c.arg := by
  simp only [Command.op, Command.rsv, Command.arg]
  apply BitVec.eq_of_getLsbD_eq
  intro j hj
  simp only [BitVec.getLsbD_append, BitVec.getLsbD_extractLsb']
  by_cases h8 : j < 8
  · simp [h8]
  · by_cases h12 : j - 8 < 4
    · simp [h8, h12, show 8 + (j - 8) = j by omega]
    · simp [h8, h12, show 12 + (j - 8 - 4) = j by omega, show j - 8 - 4 < 4 by omega]

/-- What the decoder answers, and when (R44, R45). -/
theorem decode_cases (c : Command) :
    (c.rsv = 0#4 ∧ c.op = 1#4 ∧ decode c = .ok (.ldlane c.arg.toNat c.data)) ∨
    (c.rsv = 0#4 ∧ c.op = 2#4 ∧ decode c = .ok (.rdlane c.arg.toNat)) ∨
    (c.rsv = 0#4 ∧ c.op = 3#4 ∧ decode c = .ok (.permute c.arg.toNat)) ∨
    ((c.rsv ≠ 0#4 ∨ (c.op ≠ 1#4 ∧ c.op ≠ 2#4 ∧ c.op ≠ 3#4)) ∧ ∃ e, decode c = .error e) := by
  unfold decode
  by_cases h0 : c.rsv = 0#4
  · by_cases h1 : c.op = 1#4
    · simp [h0, h1]
    · by_cases h2 : c.op = 2#4
      · simp [h0, h2]
      · by_cases h3 : c.op = 3#4
        · simp [h0, h3]
        · simp [h0, h1, h2, h3]
  · simp [h0]

end Sys2Proof
end

