-- ==== Sys2Proof/Laws/State.lean ====
section
/-! SUPPORT. One lemma per field per named update of the state, each true by computation, so that no proof unfolds a record
update. -/

namespace Sys2Proof.Machine

@[simp] theorem writeLane_lanes (s : State) (i : Fin 25) (v : Word) : (writeLane i v s).lanes = s.lanes.set i v := rfl
@[simp] theorem writeLane_ridx (s : State) (i : Fin 25) (v : Word) : (writeLane i v s).ridx = s.ridx := rfl
@[simp] theorem writeLane_rnds (s : State) (i : Fin 25) (v : Word) : (writeLane i v s).rnds = s.rnds := rfl
@[simp] theorem writeLane_busy (s : State) (i : Fin 25) (v : Word) : (writeLane i v s).busy = s.busy := rfl
@[simp] theorem writeLane_rsp (s : State) (i : Fin 25) (v : Word) : (writeLane i v s).rsp = s.rsp := rfl
@[simp] theorem writeLane_offered (s : State) (i : Fin 25) (v : Word) : (writeLane i v s).offered = s.offered := rfl
@[simp] theorem writeLane_rspReady (s : State) (i : Fin 25) (v : Word) : (writeLane i v s).rspReady = s.rspReady := rfl
@[simp] theorem writeLane_rst (s : State) (i : Fin 25) (v : Word) : (writeLane i v s).rst = s.rst := rfl
@[simp] theorem writeLane_params (s : State) (i : Fin 25) (v : Word) : (writeLane i v s).params = s.params := rfl
@[simp] theorem writeLane_written (s : State) (i : Fin 25) (v : Word) : (writeLane i v s).written = s.written.set i true := rfl
@[simp] theorem writeLane_received (s : State) (i : Fin 25) (v : Word) : (writeLane i v s).received = s.received := rfl
@[simp] theorem writeLane_resets (s : State) (i : Fin 25) (v : Word) : (writeLane i v s).resets = s.resets := rfl

@[simp] theorem respond_lanes (s : State) (c : RspCode) (d : Word) : (respond c d s).lanes = s.lanes := rfl
@[simp] theorem respond_ridx (s : State) (c : RspCode) (d : Word) : (respond c d s).ridx = s.ridx := rfl
@[simp] theorem respond_rnds (s : State) (c : RspCode) (d : Word) : (respond c d s).rnds = s.rnds := rfl
@[simp] theorem respond_busy (s : State) (c : RspCode) (d : Word) : (respond c d s).busy = s.busy := rfl
@[simp] theorem respond_rsp (s : State) (c : RspCode) (d : Word) : (respond c d s).rsp = some ⟨c, d⟩ := rfl
@[simp] theorem respond_offered (s : State) (c : RspCode) (d : Word) : (respond c d s).offered = s.offered := rfl
@[simp] theorem respond_rspReady (s : State) (c : RspCode) (d : Word) : (respond c d s).rspReady = s.rspReady := rfl
@[simp] theorem respond_rst (s : State) (c : RspCode) (d : Word) : (respond c d s).rst = s.rst := rfl
@[simp] theorem respond_params (s : State) (c : RspCode) (d : Word) : (respond c d s).params = s.params := rfl
@[simp] theorem respond_written (s : State) (c : RspCode) (d : Word) : (respond c d s).written = s.written := rfl
@[simp] theorem respond_received (s : State) (c : RspCode) (d : Word) : (respond c d s).received = s.received := rfl
@[simp] theorem respond_resets (s : State) (c : RspCode) (d : Word) : (respond c d s).resets = s.resets := rfl

@[simp] theorem reject_lanes (s : State) (c : RspCode) : (reject c s).lanes = s.lanes := rfl
@[simp] theorem reject_ridx (s : State) (c : RspCode) : (reject c s).ridx = s.ridx := rfl
@[simp] theorem reject_rnds (s : State) (c : RspCode) : (reject c s).rnds = s.rnds := rfl
@[simp] theorem reject_busy (s : State) (c : RspCode) : (reject c s).busy = s.busy := rfl
@[simp] theorem reject_rsp (s : State) (c : RspCode) : (reject c s).rsp = some ⟨c, 0⟩ := rfl
@[simp] theorem reject_offered (s : State) (c : RspCode) : (reject c s).offered = s.offered := rfl
@[simp] theorem reject_rspReady (s : State) (c : RspCode) : (reject c s).rspReady = s.rspReady := rfl
@[simp] theorem reject_rst (s : State) (c : RspCode) : (reject c s).rst = s.rst := rfl
@[simp] theorem reject_params (s : State) (c : RspCode) : (reject c s).params = s.params := rfl
@[simp] theorem reject_written (s : State) (c : RspCode) : (reject c s).written = s.written := rfl
@[simp] theorem reject_received (s : State) (c : RspCode) : (reject c s).received = s.received := rfl
@[simp] theorem reject_resets (s : State) (c : RspCode) : (reject c s).resets = s.resets := rfl

@[simp] theorem deliver_lanes (s : State) (r : Response) : (deliver r s).lanes = s.lanes := rfl
@[simp] theorem deliver_ridx (s : State) (r : Response) : (deliver r s).ridx = s.ridx := rfl
@[simp] theorem deliver_rnds (s : State) (r : Response) : (deliver r s).rnds = s.rnds := rfl
@[simp] theorem deliver_busy (s : State) (r : Response) : (deliver r s).busy = s.busy := rfl
@[simp] theorem deliver_rsp (s : State) (r : Response) : (deliver r s).rsp = none := rfl
@[simp] theorem deliver_offered (s : State) (r : Response) : (deliver r s).offered = s.offered := rfl
@[simp] theorem deliver_rspReady (s : State) (r : Response) : (deliver r s).rspReady = s.rspReady := rfl
@[simp] theorem deliver_rst (s : State) (r : Response) : (deliver r s).rst = s.rst := rfl
@[simp] theorem deliver_params (s : State) (r : Response) : (deliver r s).params = s.params := rfl
@[simp] theorem deliver_written (s : State) (r : Response) : (deliver r s).written = s.written := rfl
@[simp] theorem deliver_received (s : State) (r : Response) : (deliver r s).received = s.received ++ [r] := rfl
@[simp] theorem deliver_resets (s : State) (r : Response) : (deliver r s).resets = s.resets := rfl

@[simp] theorem putRounds_lanes (s : State) (S : Lanes) : (putRounds S s).lanes = S := rfl
@[simp] theorem putRounds_ridx (s : State) (S : Lanes) : (putRounds S s).ridx = s.ridx := rfl
@[simp] theorem putRounds_rnds (s : State) (S : Lanes) : (putRounds S s).rnds = s.rnds := rfl
@[simp] theorem putRounds_busy (s : State) (S : Lanes) : (putRounds S s).busy = s.busy := rfl
@[simp] theorem putRounds_rsp (s : State) (S : Lanes) : (putRounds S s).rsp = s.rsp := rfl
@[simp] theorem putRounds_offered (s : State) (S : Lanes) : (putRounds S s).offered = s.offered := rfl
@[simp] theorem putRounds_rspReady (s : State) (S : Lanes) : (putRounds S s).rspReady = s.rspReady := rfl
@[simp] theorem putRounds_rst (s : State) (S : Lanes) : (putRounds S s).rst = s.rst := rfl
@[simp] theorem putRounds_params (s : State) (S : Lanes) : (putRounds S s).params = s.params := rfl
@[simp] theorem putRounds_written (s : State) (S : Lanes) : (putRounds S s).written = writtenAfterRounds s.written := rfl
@[simp] theorem putRounds_received (s : State) (S : Lanes) : (putRounds S s).received = s.received := rfl
@[simp] theorem putRounds_resets (s : State) (S : Lanes) : (putRounds S s).resets = s.resets := rfl

@[simp] theorem startRounds_lanes (s : State) (n : Fin 25) : (startRounds n s).lanes = s.lanes := rfl
@[simp] theorem startRounds_ridx (s : State) (n : Fin 25) : (startRounds n s).ridx = 0 := rfl
@[simp] theorem startRounds_rnds (s : State) (n : Fin 25) : (startRounds n s).rnds = BitVec.ofNat 5 n.val := rfl
@[simp] theorem startRounds_busy (s : State) (n : Fin 25) : (startRounds n s).busy = true := rfl
@[simp] theorem startRounds_rsp (s : State) (n : Fin 25) : (startRounds n s).rsp = s.rsp := rfl
@[simp] theorem startRounds_offered (s : State) (n : Fin 25) : (startRounds n s).offered = s.offered := rfl
@[simp] theorem startRounds_rspReady (s : State) (n : Fin 25) : (startRounds n s).rspReady = s.rspReady := rfl
@[simp] theorem startRounds_rst (s : State) (n : Fin 25) : (startRounds n s).rst = s.rst := rfl
@[simp] theorem startRounds_params (s : State) (n : Fin 25) : (startRounds n s).params = s.params := rfl
@[simp] theorem startRounds_written (s : State) (n : Fin 25) : (startRounds n s).written = s.written := rfl
@[simp] theorem startRounds_received (s : State) (n : Fin 25) : (startRounds n s).received = s.received := rfl
@[simp] theorem startRounds_resets (s : State) (n : Fin 25) : (startRounds n s).resets = s.resets := rfl

@[simp] theorem nextRound_lanes (s : State) : (nextRound s).lanes = s.lanes := rfl
@[simp] theorem nextRound_ridx (s : State) : (nextRound s).ridx = s.ridx + 1 := rfl
@[simp] theorem nextRound_rnds (s : State) : (nextRound s).rnds = s.rnds := rfl
@[simp] theorem nextRound_busy (s : State) : (nextRound s).busy = s.busy := rfl
@[simp] theorem nextRound_rsp (s : State) : (nextRound s).rsp = s.rsp := rfl
@[simp] theorem nextRound_offered (s : State) : (nextRound s).offered = s.offered := rfl
@[simp] theorem nextRound_rspReady (s : State) : (nextRound s).rspReady = s.rspReady := rfl
@[simp] theorem nextRound_rst (s : State) : (nextRound s).rst = s.rst := rfl
@[simp] theorem nextRound_params (s : State) : (nextRound s).params = s.params := rfl
@[simp] theorem nextRound_written (s : State) : (nextRound s).written = s.written := rfl
@[simp] theorem nextRound_received (s : State) : (nextRound s).received = s.received := rfl
@[simp] theorem nextRound_resets (s : State) : (nextRound s).resets = s.resets := rfl

@[simp] theorem finishRounds_lanes (s : State) : (finishRounds s).lanes = s.lanes := rfl
@[simp] theorem finishRounds_ridx (s : State) : (finishRounds s).ridx = s.ridx := rfl
@[simp] theorem finishRounds_rnds (s : State) : (finishRounds s).rnds = s.rnds := rfl
@[simp] theorem finishRounds_busy (s : State) : (finishRounds s).busy = false := rfl
@[simp] theorem finishRounds_rsp (s : State) : (finishRounds s).rsp = some ⟨.ok, 0⟩ := rfl
@[simp] theorem finishRounds_offered (s : State) : (finishRounds s).offered = s.offered := rfl
@[simp] theorem finishRounds_rspReady (s : State) : (finishRounds s).rspReady = s.rspReady := rfl
@[simp] theorem finishRounds_rst (s : State) : (finishRounds s).rst = s.rst := rfl
@[simp] theorem finishRounds_params (s : State) : (finishRounds s).params = s.params := rfl
@[simp] theorem finishRounds_written (s : State) : (finishRounds s).written = s.written := rfl
@[simp] theorem finishRounds_received (s : State) : (finishRounds s).received = s.received := rfl
@[simp] theorem finishRounds_resets (s : State) : (finishRounds s).resets = s.resets := rfl

@[simp] theorem leaveCount_lanes (s : State) (n : Fin 25) : (leaveCount n s).lanes = s.lanes := rfl
@[simp] theorem leaveCount_ridx (s : State) (n : Fin 25) : (leaveCount n s).ridx = BitVec.ofNat 5 n.val := rfl
@[simp] theorem leaveCount_rnds (s : State) (n : Fin 25) : (leaveCount n s).rnds = BitVec.ofNat 5 n.val := rfl
@[simp] theorem leaveCount_busy (s : State) (n : Fin 25) : (leaveCount n s).busy = s.busy := rfl
@[simp] theorem leaveCount_rsp (s : State) (n : Fin 25) : (leaveCount n s).rsp = s.rsp := rfl
@[simp] theorem leaveCount_offered (s : State) (n : Fin 25) : (leaveCount n s).offered = s.offered := rfl
@[simp] theorem leaveCount_rspReady (s : State) (n : Fin 25) : (leaveCount n s).rspReady = s.rspReady := rfl
@[simp] theorem leaveCount_rst (s : State) (n : Fin 25) : (leaveCount n s).rst = s.rst := rfl
@[simp] theorem leaveCount_params (s : State) (n : Fin 25) : (leaveCount n s).params = s.params := rfl
@[simp] theorem leaveCount_written (s : State) (n : Fin 25) : (leaveCount n s).written = s.written := rfl
@[simp] theorem leaveCount_received (s : State) (n : Fin 25) : (leaveCount n s).received = s.received := rfl
@[simp] theorem leaveCount_resets (s : State) (n : Fin 25) : (leaveCount n s).resets = s.resets := rfl

@[simp] theorem takeReset_lanes (s : State) : (takeReset s).lanes = Vector.ofFn (Config.unspecifiedLane (s.resets + 1)) := rfl
@[simp] theorem takeReset_ridx (s : State) : (takeReset s).ridx = 0 := rfl
@[simp] theorem takeReset_rnds (s : State) : (takeReset s).rnds = 0 := rfl
@[simp] theorem takeReset_busy (s : State) : (takeReset s).busy = false := rfl
@[simp] theorem takeReset_rsp (s : State) : (takeReset s).rsp = none := rfl
@[simp] theorem takeReset_offered (s : State) : (takeReset s).offered = s.offered := by rw [takeReset]
@[simp] theorem takeReset_rspReady (s : State) : (takeReset s).rspReady = s.rspReady := by rw [takeReset]
@[simp] theorem takeReset_rst (s : State) : (takeReset s).rst = false := rfl
@[simp] theorem takeReset_params (s : State) : (takeReset s).params = s.params := by rw [takeReset]
@[simp] theorem takeReset_written (s : State) : (takeReset s).written = Vector.replicate 25 false := rfl
@[simp] theorem takeReset_received (s : State) : (takeReset s).received = s.received := by rw [takeReset]
@[simp] theorem takeReset_resets (s : State) : (takeReset s).resets = s.resets + 1 := rfl

@[simp] theorem State.withFetchWord_lanes (s : State) (nbits w : Nat) : (s.withFetchWord nbits w).lanes = s.lanes := rfl
@[simp] theorem State.withFetchWord_ridx (s : State) (nbits w : Nat) : (s.withFetchWord nbits w).ridx = s.ridx := rfl
@[simp] theorem State.withFetchWord_rnds (s : State) (nbits w : Nat) : (s.withFetchWord nbits w).rnds = s.rnds := rfl
@[simp] theorem State.withFetchWord_busy (s : State) (nbits w : Nat) : (s.withFetchWord nbits w).busy = false := rfl
@[simp] theorem State.withFetchWord_rsp (s : State) (nbits w : Nat) : (s.withFetchWord nbits w).rsp = none := rfl
@[simp] theorem State.withFetchWord_offered (s : State) (nbits w : Nat) : (s.withFetchWord nbits w).offered = commandOfBits nbits w :: s.offered := rfl
@[simp] theorem State.withFetchWord_rspReady (s : State) (nbits w : Nat) : (s.withFetchWord nbits w).rspReady = s.rspReady := rfl
@[simp] theorem State.withFetchWord_rst (s : State) (nbits w : Nat) : (s.withFetchWord nbits w).rst = false := rfl
@[simp] theorem State.withFetchWord_params (s : State) (nbits w : Nat) : (s.withFetchWord nbits w).params = s.params := rfl
@[simp] theorem State.withFetchWord_written (s : State) (nbits w : Nat) : (s.withFetchWord nbits w).written = s.written := rfl
@[simp] theorem State.withFetchWord_received (s : State) (nbits w : Nat) : (s.withFetchWord nbits w).received = s.received := rfl
@[simp] theorem State.withFetchWord_resets (s : State) (nbits w : Nat) : (s.withFetchWord nbits w).resets = s.resets := rfl

end Sys2Proof.Machine
end

