-- ==== Sys2Proof/Laws/Ops.lean ====
section
/-! SUPPORT. What the shared operations, the meanings and one step can do, said once: later proofs cite these and do not
unfold the step. -/

namespace Sys2Proof.Machine

/-- Two next states that are one outcome are one state; cited where `cases` would unfold the states first. -/
theorem next_inj {s t : State} (h : (.next s : Host.Outcome State Fault Refusal) = .next t) : t = s := by
  injection h with h'
  exact h'.symm

/-- A fault is no next state. -/
theorem fault_ne_next {f : Fault} {t : State} (h : (.fault f : Host.Outcome State Fault Refusal) = .next t) :
    False := nomatch h

theorem laneIndex?_of_lt {idx : Nat} (h : idx < 25) : laneIndex? idx = some ⟨idx, h⟩ := by simp [laneIndex?, h]

theorem laneIndex?_of_gt {idx : Nat} (h : 24 < idx) : laneIndex? idx = none := by
  simp [laneIndex?, show ¬ idx < 25 by omega]

theorem roundCount?_of_le {n : Nat} (h : n ≤ 24) : roundCount? n = some ⟨n, Nat.lt_succ_of_le h⟩ := by
  simp [roundCount?, Nat.lt_succ_of_le h]

theorem roundCount?_of_gt {n : Nat} (h : 24 < n) : roundCount? n = none := by
  simp [roundCount?, show ¬ n < 25 by omega]

/-- `allSet` is every bit, read one by one. -/
theorem allSet_iff (w : Vector Bool 25) : allSet w = true ↔ ∀ i : Fin 25, w[i] = true := by
  simp only [allSet, List.all_eq_true, id, Vector.mem_toList_iff]
  constructor
  · intro h i
    exact h _ (Vector.getElem_mem i.isLt)
  · intro h x hx
    obtain ⟨i, hi, rfl⟩ := Vector.getElem_of_mem hx
    exact h ⟨i, hi⟩

/-- The ghost bits after rounds: all set if all were, none otherwise (R21). -/
@[simp] theorem writtenAfterRounds_getElem (w : Vector Bool 25) (i : Nat) (h : i < 25) :
    (writtenAfterRounds w)[i] = allSet w := by simp [writtenAfterRounds]

@[simp] theorem allSet_writtenAfterRounds (w : Vector Bool 25) : allSet (writtenAfterRounds w) = allSet w := by
  simp only [writtenAfterRounds]
  cases allSet w <;> decide

/-- One more round leaves them as they are. -/
@[simp] theorem writtenAfterRounds_idem (w : Vector Bool 25) :
    writtenAfterRounds (writtenAfterRounds w) = writtenAfterRounds w := by
  rw [writtenAfterRounds, allSet_writtenAfterRounds, writtenAfterRounds]

/-- The lanes survive the rounds specified only if every one was (R21). -/
theorem written_of_writtenAfterRounds {w : Vector Bool 25} (i : Fin 25)
    (hw : (writtenAfterRounds w)[i] = true) : w[i] = true := by
  rw [Fin.getElem_fin, writtenAfterRounds_getElem] at hw
  exact (allSet_iff w).mp hw i

/-- LDLANE either writes its lane or rejects its index (R89). -/
theorem execLdlane_cases (idx : Nat) (value : Word) (s : State) :
    (∃ i : Fin 25, i.val = idx ∧ execLdlane idx value s = .next (respond .ok 0 (writeLane i value s))) ∨
    (24 < idx ∧ execLdlane idx value s = .next (reject .errIndex s)) := by
  by_cases h : idx < 25
  · exact .inl ⟨⟨idx, h⟩, rfl, by simp [execLdlane, laneIndex?_of_lt h]⟩
  · exact .inr ⟨by omega, by simp [execLdlane, laneIndex?_of_gt (show 24 < idx by omega)]⟩

/-- RDLANE either answers its lane or rejects its index (R90). -/
theorem execRdlane_cases (idx : Nat) (s : State) :
    (∃ i : Fin 25, i.val = idx ∧ execRdlane idx s = .next (respond .ok (readLane i s) s)) ∨
    (24 < idx ∧ execRdlane idx s = .next (reject .errIndex s)) := by
  by_cases h : idx < 25
  · exact .inl ⟨⟨idx, h⟩, rfl, by simp [execRdlane, laneIndex?_of_lt h]⟩
  · exact .inr ⟨by omega, by simp [execRdlane, laneIndex?_of_gt (show 24 < idx by omega)]⟩

/-- PERMUTE starts its rounds, runs them at once, or rejects its count (R78, R80, R82, R83). -/
theorem execPermute_cases (n : Nat) (s : State) :
    (∃ k : Fin 25, k.val = n ∧ s.params.impl = .iterated ∧ execPermute n s = .next (startRounds k s)) ∨
    (∃ k : Fin 25, k.val = n ∧ s.params.impl = .unrolled ∧ execPermute n s = .next (permuteAtOnce k s)) ∨
    (24 < n ∧ execPermute n s = .next (reject .errRounds s)) := by
  by_cases h : n ≤ 24
  · cases hi : s.params.impl with
    | iterated => exact .inl ⟨⟨n, Nat.lt_succ_of_le h⟩, rfl, rfl, by simp [execPermute, roundCount?_of_le h, hi]⟩
    | unrolled =>
      exact .inr (.inl ⟨⟨n, Nat.lt_succ_of_le h⟩, rfl, rfl, by simp [execPermute, roundCount?_of_le h, hi]⟩)
  · exact .inr (.inr ⟨by omega, by simp [execPermute, roundCount?_of_gt (show 24 < n by omega)]⟩)

/-- Every command answers a next state (R97). -/
theorem exec_next (i : Instr) (s : State) : ∃ t, exec i s = .next t := by
  cases i with
  | ldlane idx value =>
    rcases execLdlane_cases idx value s with ⟨_, _, h⟩ | ⟨_, h⟩ <;> exact ⟨_, h⟩
  | rdlane idx =>
    rcases execRdlane_cases idx s with ⟨_, _, h⟩ | ⟨_, h⟩ <;> exact ⟨_, h⟩
  | permute n =>
    rcases execPermute_cases n s with ⟨_, _, _, h⟩ | ⟨_, _, _, h⟩ | ⟨_, h⟩ <;> exact ⟨_, h⟩

/-- What the sequencer does: a round step, the completion step, or one of its three faults (R82). -/
theorem sequencerStep_cases (s : State) :
    (s.params.impl = .unrolled ∧ sequencerStep s = .fault .busyUnrolled) ∨
    (s.params.impl = .iterated ∧ s.ridx = s.rnds ∧ sequencerStep s = .next (finishRounds s)) ∨
    (s.params.impl = .iterated ∧ s.ridx < s.rnds ∧
      ∃ r : Fin 24, r.val = s.ridx.toNat ∧ sequencerStep s = .next (roundStep r s)) ∨
    (s.params.impl = .iterated ∧ s.ridx < s.rnds ∧ ¬ s.ridx.toNat < 24 ∧
      sequencerStep s = .fault .ridxPastTable) ∨
    (s.params.impl = .iterated ∧ s.ridx ≠ s.rnds ∧ ¬ s.ridx < s.rnds ∧ sequencerStep s = .fault .ridxAboveRnds) := by
  unfold sequencerStep
  cases s.params.impl with
  | unrolled => exact .inl ⟨rfl, rfl⟩
  | iterated =>
    by_cases he : s.ridx = s.rnds
    · simp [he]
    · by_cases hl : s.ridx < s.rnds
      · by_cases hr : s.ridx.toNat < 24
        · exact .inr (.inr (.inl ⟨rfl, hl, ⟨_, hr⟩, rfl, by simp [he, hl, hr]⟩))
        · simp [he, hl, hr]
      · simp [he, hl]

/-- What one step can do, in the order the engine looks: reset, delivery or waiting, the sequencer, nothing, an illegal
word, a command (R88, R99). -/
theorem step_cases (s : State) :
    (s.rst = true ∧ step s = .next (takeReset s)) ∨
    (s.rst = false ∧ ∃ r, s.rsp = some r ∧
      ((s.rspReady = true ∧ step s = .next (deliver r s)) ∨ (s.rspReady = false ∧ step s = .next s))) ∨
    (s.rst = false ∧ s.rsp = none ∧ s.busy = true ∧ step s = sequencerStep s) ∨
    (s.rst = false ∧ s.rsp = none ∧ s.busy = false ∧ s.offered = [] ∧ step s = .next s) ∨
    (s.rst = false ∧ s.rsp = none ∧ s.busy = false ∧ ∃ c rest, s.offered = c :: rest ∧
      ((∃ e, decode c = .error e ∧ step s = .next (reject .errIllegal { s with offered := rest })) ∨
       (∃ i, decode c = .ok i ∧ step s = exec i { s with offered := rest }))) := by
  unfold step engineStep
  cases hrst : s.rst with
  | true => simp
  | false =>
    cases hrsp : s.rsp with
    | some r => cases hr : s.rspReady <;> simp
    | none =>
      cases hb : s.busy with
      | true => simp
      | false =>
        cases ho : s.offered with
        | nil => simp
        | cons c rest =>
          refine .inr (.inr (.inr (.inr ⟨rfl, rfl, rfl, c, rest, rfl, ?_⟩)))
          cases hd : decode c with
          | error e => exact .inl ⟨e, rfl, by simp [acceptCommand, hd]⟩
          | ok i => exact .inr ⟨i, rfl, by simp [acceptCommand, hd]⟩

end Sys2Proof.Machine
end

