-- ==== Sys2Proof/Laws/PerInstr.lean ====
section
/-! SUPPORT. What holds of every command as syntax, one lemma per constructor. -/

/-- The encoded word of a well-formed command holds the row's opcode, a zero reserved field and the whole operand,
and the opcode is one of the three of the map (30_encoding.md R41, R44, R47). -/
def Sys2Proof.Laws.EncodeFields.Statement (i : Sys2Proof.Instr) : Prop :=
  i.wellFormed = true →
    (Sys2Proof.encode i).op = i.opcode ∧ (Sys2Proof.encode i).rsv = 0#4 ∧
      (Sys2Proof.encode i).arg.toNat = i.operand ∧ (i.opcode = 1#4 ∨ i.opcode = 2#4 ∨ i.opcode = 3#4)

theorem Sys2Proof.Laws.EncodeFields.ldlane (idx : Nat) (value : Sys2Proof.Word) :
    Sys2Proof.Laws.EncodeFields.Statement (.ldlane idx value) := fun h =>
  ⟨Sys2Proof.op_encode _, Sys2Proof.rsv_encode _, Sys2Proof.arg_encode_toNat h, .inl rfl⟩

theorem Sys2Proof.Laws.EncodeFields.rdlane (idx : Nat) :
    Sys2Proof.Laws.EncodeFields.Statement (.rdlane idx) := fun h =>
  ⟨Sys2Proof.op_encode _, Sys2Proof.rsv_encode _, Sys2Proof.arg_encode_toNat h, .inr (.inl rfl)⟩

theorem Sys2Proof.Laws.EncodeFields.permute (rounds : Nat) :
    Sys2Proof.Laws.EncodeFields.Statement (.permute rounds) := fun h =>
  ⟨Sys2Proof.op_encode _, Sys2Proof.rsv_encode _, Sys2Proof.arg_encode_toNat h, .inr (.inr rfl)⟩
end

