-- ==== Sys2Proof/Laws/Run.lean ====
section
/-! SUPPORT. Runs: one step and then the rest, composing two, and packaging an invariant's induction once. -/

namespace Sys2Proof

open Machine

@[simp] theorem run_zero (s : State) : run 0 s = .next s := rfl

theorem run_succ {s t : State} (k : Nat) (h : step s = .next t) : run (k + 1) s = run k t := by
  have h' : core.step s = .next t := h
  simp only [run, Host.Core.run, h']
  rfl

theorem run_succ_fault {s : State} {r : Fault} (k : Nat) (h : step s = .fault r) : run (k + 1) s = .fault r := by
  have h' : core.step s = .fault r := h
  simp only [run, Host.Core.run, h']
  rfl

theorem run_succ_refused {s : State} {r : Refusal} (k : Nat) (h : step s = .refused r) :
    run (k + 1) s = .refused r := by
  have h' : core.step s = .refused r := h
  simp only [run, Host.Core.run, h']
  rfl

theorem run_one (s : State) : run 1 s = step s := by
  cases h : step s with
  | next t => rw [run_succ 0 h, run_zero]
  | fault r => exact run_succ_fault 0 h
  | refused r => exact run_succ_refused 0 h

/-- A run that answers begins with a step that answers. -/
theorem step_of_run_succ {s t : State} {k : Nat} (h : run (k + 1) s = .next t) :
    ∃ u, step s = .next u ∧ run k u = .next t := by
  cases hs : step s with
  | next u => exact ⟨u, rfl, by rwa [run_succ k hs] at h⟩
  | fault r => rw [run_succ_fault k hs] at h; cases h
  | refused r => rw [run_succ_refused k hs] at h; cases h

theorem run_add {s t : State} {j : Nat} (k : Nat) (h : run j s = .next t) : run (j + k) s = run k t := by
  induction j generalizing s with
  | zero => rw [run_zero, Host.Outcome.next.injEq] at h; rw [h, Nat.zero_add]
  | succ j ih =>
    obtain ⟨u, hs, hu⟩ := step_of_run_succ h
    rw [Nat.add_right_comm, run_succ (j + k) hs, ih hu]

/-- What every step keeps, every run keeps. -/
theorem run_keeps {P : State → Prop} (hP : ∀ s t, P s → step s = .next t → P t) (k : Nat) :
    ∀ s t : State, P s → run k s = .next t → P t := by
  induction k with
  | zero =>
    intro s t hs h
    rw [run_zero, Host.Outcome.next.injEq] at h
    exact h ▸ hs
  | succ k ih =>
    intro s t hs h
    obtain ⟨u, hsu, hu⟩ := step_of_run_succ h
    exact ih u t (hP s u hs hsu) hu

end Sys2Proof
end

