-- ==== Sys2Proof/Laws/Transform.lean ====
section
/-! SUPPORT. The step functions lane by lane: one lemma each, so that proofs read a lane and do not unfold a step
function. -/

namespace Sys2Proof.Machine

@[simp] theorem colOf_laneAt (x y : Fin 5) : colOf (laneAt x y) = x := by
  simp only [colOf, laneAt, Fin.ext_iff]; omega

@[simp] theorem rowOf_laneAt (x y : Fin 5) : rowOf (laneAt x y) = y := by
  simp only [rowOf, laneAt, Fin.ext_iff]; omega

@[simp] theorem laneAt_colOf_rowOf (i : Fin 25) : laneAt (colOf i) (rowOf i) = i := by
  simp only [colOf, rowOf, laneAt, Fin.ext_iff]; omega

/-- Two lane files are equal when every lane is. -/
theorem lanes_ext {A B : Lanes} (h : ∀ i : Fin 25, A[i] = B[i]) : A = B :=
  Vector.ext fun i hi => h ⟨i, hi⟩

/-- Bit `j` of a rotated lane (R6). -/
theorem rotl_getLsbD (v : Word) (n j : Nat) (h1 : 1 ≤ n) (h2 : n ≤ 63) (hj : j < 64) :
    (rotl v n).getLsbD j = if j < n then v.getLsbD (64 - n + j) else v.getLsbD (j - n) := by
  simp only [rotl, BitVec.getLsbD_or, BitVec.getLsbD_shiftLeft, BitVec.getLsbD_ushiftRight]
  by_cases h : j < n
  · simp [h]
  · simp [h, hj, BitVec.getLsbD_of_ge v (64 - n + j) (by omega)]

/-- The rotate is linear over XOR. -/
theorem rotl_xor (a b : Word) (n : Nat) (h1 : 1 ≤ n) (h2 : n ≤ 63) : rotl (a ^^^ b) n = rotl a n ^^^ rotl b n := by
  apply BitVec.eq_of_getLsbD_eq
  intro j hj
  simp only [BitVec.getLsbD_xor, rotl_getLsbD _ n j h1 h2 hj]
  split <;> rfl

/-- Theta on one lane: the parities of the two neighbour columns (R58). -/
theorem theta_getElem (v : Variant) (S : Lanes) (i : Fin 25) :
    (theta v S)[i] =
      S[i] ^^^ (thetaParity v S (colOf i + 4) ^^^ rotl (thetaParity v S (colOf i + 1)) 1) := by
  simp [theta, thetaDelta]

/-- Chi on one lane (R68). -/
theorem chi_getElem (S : Lanes) (i : Fin 25) :
    (chi S)[i] =
      S[i] ^^^ (~~~S[laneAt (colOf i + 1) (rowOf i)] &&& S[laneAt (colOf i + 2) (rowOf i)]) := by
  simp [chi]

/-- Iota on lane 0 and on the others (R72). -/
theorem iota_getElem (tab : Config.Tables) (r : Fin 24) (S : Lanes) (i : Fin 25) :
    (iota tab r S)[i] = if i = 0 then S[0] ^^^ tab.rc[r] else S[i] := by
  by_cases h : i = 0
  · subst h; simp [iota]
  · have : (0 : Nat) ≠ i.val := fun hi => h (Fin.ext hi.symm)
    simp [iota, h, Vector.getElem_set_ne, this]

/-- The chain over a list of links, one link more. -/
theorem rhoPi_foldl_append (tab : Config.Tables) (p : Lanes × Word) (l m : List (Fin 24)) :
    (l ++ m).foldl (rhoPiLink tab) p = m.foldl (rhoPiLink tab) (l.foldl (rhoPiLink tab) p) := List.foldl_append

end Sys2Proof.Machine
end

