-- ==== Sys2Proof/Tests/Slice0.lean ====
section
/-! SUPPORT. Small tests with expected values from spec/ (the hand examples and 95_test_vectors.md), and for each statement
with hypotheses a named witness that meets them. -/

namespace Sys2Proof.Tests

open Sys2Proof.Machine

/-! ## Well-formedness -/

/-- Operands above 255 do not fit `arg` (R43); 255 does. -/
theorem test_wellFormed_ldlane_256 : (Instr.ldlane 256 0).wellFormed = false := by decide
theorem test_wellFormed_rdlane_256 : (Instr.rdlane 256).wellFormed = false := by decide
theorem test_wellFormed_permute_256 : (Instr.permute 256).wellFormed = false := by decide
theorem test_wellFormed_255 :
    (Instr.ldlane 255 0).wellFormed = true ∧ (Instr.rdlane 255).wellFormed = true ∧
      (Instr.permute 255).wellFormed = true := by decide

/-! ## Decoding: words written bit by bit, op || rsv || arg (R41, R44; vector H1) -/

/-- R89's example: LDLANE 3 is 0x1003 with the value on CD. -/
theorem test_decode_ldlane :
    decode ⟨0b0001_0000_00000011, 0x0123456789ABCDEF⟩ = .ok (.ldlane 3 0x0123456789ABCDEF) := by decide
/-- R90's example: RDLANE 3 is 0x2003. -/
theorem test_decode_rdlane : decode ⟨0b0010_0000_00000011, 0xFFFF⟩ = .ok (.rdlane 3) := by decide
/-- R78's example: PERMUTE 24 is 0x3018. -/
theorem test_decode_permute : decode ⟨0b0011_0000_00011000, 0xFFFF⟩ = .ok (.permute 24) := by decide
/-- The ends of the `arg` field: the highest and the lowest bit both count (R43). -/
theorem test_decode_arg_ends :
    decode ⟨0b0010_0000_10000000, 0⟩ = .ok (.rdlane 128) ∧
      decode ⟨0b0010_0000_00000001, 0⟩ = .ok (.rdlane 1) := by decide
/-- The illegal words of H1, and R45's all-zero word. -/
theorem test_decode_illegal :
    decode ⟨0x0000, 0⟩ = .error .reservedOpcode ∧ decode ⟨0x4000, 0⟩ = .error .reservedOpcode ∧
      decode ⟨0xF018, 0⟩ = .error .reservedOpcode ∧ decode ⟨0x1100, 0⟩ = .error .reservedBits ∧
      decode ⟨0x3818, 0⟩ = .error .reservedBits ∧ decode ⟨0x31FF, 0⟩ = .error .reservedBits := by decide
/-- R47's encoding as 45_host_commands.md and 95_test_vectors.md print it. -/
theorem test_encode :
    encode (.ldlane 24 5) = ⟨0x1018, 5⟩ ∧ encode (.rdlane 12) = ⟨0x200C, 0⟩ ∧
      encode (.permute 255) = ⟨0x30FF, 0⟩ := by decide
/-- A 16-bit and an 80-bit table word, CD above CW. -/
theorem test_decodeTableWord :
    decodeTableWord 16 0x3018 = some (.permute 24) ∧ decodeTableWord 16 0x1003 = some (.ldlane 3 0) ∧
      decodeTableWord 80 0xAB1003 = some (.ldlane 3 0xAB) ∧ decodeTableWord 16 0x0000 = none := by decide

/-! ## The step functions on the vectors of 95_test_vectors.md -/

/-- State `A` of section 7: lane i holds i + 1. -/
def stateA : Lanes := #v[1, 2, 3, 4, 5, 6, 7, 8, 9, 10, 11, 12, 13, 14, 15, 16, 17, 18, 19, 20, 21, 22, 23, 24, 25]

/-- The input of vector T6. -/
def inputT6 : Lanes :=
  #v[0, 0, 0, 0x0123456789ABCDEF, 0, 0, 0, 0, 0, 0, 0, 0, 0, 0x0000000100000001, 0, 0, 0, 0, 0x00000000FFFFFFFF, 0,
     0, 0, 0, 0x0000000000000010, 0]

/-- T6, STD: columns 2, 3 and 4 in rows 0 and 4. -/
theorem test_theta_std_T6 :
    (theta .std inputT6)[2] = 0x02468ACCECA86402 ∧ (theta .std inputT6)[3] = 0x0123456789ABCDEF ∧
      (theta .std inputT6)[4] = 0x0123456676543201 ∧ (theta .std inputT6)[22] = 0x02468ACCECA86402 ∧
      (theta .std inputT6)[23] = 0x10 ∧ (theta .std inputT6)[1] = 0 := by decide
/-- T6, MUL: the product wraps to a non-zero word. -/
theorem test_theta_mul_T6 :
    (theta .mul inputT6)[2] = 0xFDB97530ECA8643F ∧ (theta .mul inputT6)[3] = 0x0123456789ABCDEF ∧
      (theta .mul inputT6)[4] = 0xFEDCBA987654321F ∧ (theta .mul inputT6)[22] = 0xFDB97530ECA8643F ∧
      (theta .mul inputT6)[23] = 0x10 ∧ (theta .mul inputT6)[1] = 0 := by decide
/-- T4: the rotate by 1 wraps bit 63 to bit 0. -/
theorem test_theta_T4 :
    (theta .std (zeroLanes.set 0 0x8000000000000000))[4] = 1 ∧
      (theta .mul (zeroLanes.set 0 0x8000000000000000))[21] = 0x8000000000000000 := by decide
/-- RP2: every lane holds its own index. -/
theorem test_rhoPi_RP2 :
    rhoPi tables (Vector.ofFn fun i : Fin 25 => BitVec.ofNat 64 i.val) =
      #v[0x0, 0x0000600000000000, 0x0000600000000000, 0x0000000002400000, 0x0000000000060000,
         0x0000000030000000, 0x0000000000900000, 0x0000000000000050, 0x0002000000000000, 0xC000000000000002,
         0x0000000000000002, 0x00000000000001C0, 0x000000001A000000, 0x0000000000001300, 0x0000000000500000,
         0x0000000020000000, 0x0000005000000000, 0x0000000000002C00, 0x0000000000088000, 0x1700000000000000,
         0x8000000000000000, 0x0400000000000000, 0x0000070000000000, 0x00001E0000000000, 0x0000000000000054] := by
  decide
/-- CH1: five different rows. -/
theorem test_chi_CH1 :
    chi #v[1, 2, 3, 4, 5, ~~~0, ~~~0, ~~~0, ~~~0, ~~~0, 0, ~~~0, ~~~0, 0, 0,
        0xF0F0F0F0F0F0F0F0, 0xFF00FF00FF00FF00, 0xFFFF0000FFFF0000, 0, 0, 0xA, 0xC, 0xF, 0, 5] =
      #v[0, 6, 2, 4, 7, ~~~0, ~~~0, ~~~0, ~~~0, ~~~0, 0, ~~~0, ~~~0, 0, ~~~0,
        0xF00FF0F0F00FF0F0, 0xFF00FF00FF00FF00, 0xFFFF0000FFFF0000, 0xF0F0F0F0F0F0F0F0, 0x0F000F000F000F00,
        9, 0xC, 0xA, 0xA, 1] := by decide
/-- The Iota table of section 6: S[0] is all-ones before. -/
theorem test_iota :
    (iota tables 0 (zeroLanes.set 0 0xFFFFFFFFFFFFFFFF))[0] = 0xFFFFFFFFFFFFFFFE ∧
      (iota tables 2 (zeroLanes.set 0 0xFFFFFFFFFFFFFFFF))[0] = 0x7FFFFFFFFFFF7F75 ∧
      (iota tables 22 (zeroLanes.set 0 0xFFFFFFFFFFFFFFFF))[0] = 0xFFFFFFFF7FFFFFFE ∧
      (iota tables 23 (zeroLanes.set 0 0xFFFFFFFFFFFFFFFF))[0] = 0x7FFFFFFF7FFF7FF7 := by decide
/-- RT-STD: lanes of the state after ROUND(0) on `A`. -/
theorem test_round_std_A :
    (runRound tables .std 0 stateA)[0] = 0x0000180000000011 ∧ (runRound tables .std 0 stateA)[7] = 0x20000000000000D1 ∧
      (runRound tables .std 0 stateA)[19] = 0x0100017000000000 ∧
      (runRound tables .std 0 stateA)[24] = 0x0800000000000064 := by decide
/-- RT-MUL: the same lanes. -/
theorem test_round_mul_A :
    (runRound tables .mul 0 stateA)[0] = 0x0101500000003E59 ∧ (runRound tables .mul 0 stateA)[7] = 0x000000000001F69C ∧
      (runRound tables .mul 0 stateA)[19] = 0x9303E5D00000002F ∧
      (runRound tables .mul 0 stateA)[24] = 0xC1000000000091EE := by decide

/-! ## One step per instruction (vector H1: every line starts from state `A`, idle) -/

/-- An idle engine with state `A` in its lanes, all of them written, and these commands on its port. -/
def demo (impl : Impl) (variant : Variant) (cs : List Command) : State where
  lanes := stateA
  ridx := 0
  rnds := 0
  busy := false
  rsp := none
  offered := cs
  rspReady := true
  rst := false
  params := ⟨variant, impl⟩
  written := Vector.replicate 25 true
  received := []
  resets := 0

/-- The state an outcome answers, to compare it. -/
def nextOf (o : Host.Outcome State Fault Refusal) : Option State :=
  match o with
  | .next t => some t
  | .fault _ => none
  | .refused _ => none

/-- LDLANE 24 writes lane 24 and answers (OK, 0); lane 23 stays. -/
theorem test_step_ldlane_24 :
    (nextOf (step (demo .iterated .std [⟨0x1018, 0xFFFFFFFFFFFFFFFF⟩]))).map
      (fun t => (t.lanes[24], t.lanes[23], t.rsp)) =
        some (0xFFFFFFFFFFFFFFFF, 24, some ⟨.ok, 0⟩) := by decide
/-- LDLANE 25 is ERR_INDEX with no other change. -/
theorem test_step_ldlane_25 :
    nextOf (step (demo .iterated .std [⟨0x1019, 0x1234⟩])) =
      some { demo .iterated .std [] with rsp := some ⟨.errIndex, 0⟩ } := by decide
/-- RDLANE 24 answers 0x19 and changes nothing else. -/
theorem test_step_rdlane_24 :
    nextOf (step (demo .unrolled .mul [⟨0x2018, 7⟩])) =
      some { demo .unrolled .mul [] with rsp := some ⟨.ok, 0x19⟩ } := by decide
/-- RDLANE 25 is ERR_INDEX. -/
theorem test_step_rdlane_25 :
    nextOf (step (demo .iterated .std [⟨0x2019, 7⟩])) =
      some { demo .iterated .std [] with rsp := some ⟨.errIndex, 0⟩ } := by decide
/-- PERMUTE 1 on an UNROLLED STD engine: lane 0 of RT-STD, (OK, 0), the count left in RNDS and RIDX (R12, R14). -/
theorem test_step_permute_1 :
    (nextOf (step (demo .unrolled .std [⟨0x3001, 7⟩]))).map
      (fun t => (t.lanes[0], t.rsp, t.busy, t.rnds, t.ridx)) =
        some (0x0000180000000011, some ⟨.ok, 0⟩, false, 1, 1) := by decide
/-- PERMUTE 255 is ERR_ROUNDS with no other change (P9). -/
theorem test_step_permute_255 :
    nextOf (step (demo .iterated .std [⟨0x30FF, 7⟩])) =
      some { demo .iterated .std [] with rsp := some ⟨.errRounds, 0⟩ } := by decide
/-- A command placed on the port runs in the next step. -/
theorem test_withFetchWord :
    nextOf (step ((demo .iterated .std []).withFetchWord 16 0x3818)) =
      some { demo .iterated .std [] with rsp := some ⟨.errIllegal, 0⟩ } := by decide

/-! ## Witnesses: for each statement with hypotheses, a state and operands that meet all of them -/

theorem witness_ready (impl : Impl) (v : Variant) (cs : List Command) : Ready (demo impl v cs) := ⟨rfl, rfl, rfl⟩

/-- A busy ITERATED engine two rounds into a PERMUTE 24. -/
def demoBusy (cs : List Command) : State := { demo .iterated .std cs with rnds := 24, ridx := 2, busy := true }

/-- An engine whose response waits. -/
def demoWaiting (ready : Bool) : State :=
  { demo .iterated .std [⟨0x2000, 0⟩] with rsp := some ⟨.errIndex, 0⟩, rspReady := ready }

/-- What the output ports carry while a response waits: rsp_valid, RSPC 2 for ERR_INDEX, RSPD 0, cmd_ready 0 (R42, R49,
R50); and the other codes of R42's table. -/
theorem test_output_ports :
    (demoWaiting false).rspValid = true ∧ (demoWaiting false).rspCode = some 2 ∧ (demoWaiting false).rspData = some 0 ∧
      (demoWaiting false).cmdReady = false ∧ RspCode.ok.bits = 0 ∧ RspCode.errRounds.bits = 1 ∧
      RspCode.errIllegal.bits = 3 := by decide

/-- An engine with lane 3 not written since reset, holding `w`. -/
def demoUnwritten (w : Word) (cs : List Command) : State :=
  { demo .iterated .std cs with lanes := stateA.set 3 w, written := (Vector.replicate 25 true).set 3 false }

theorem witness_inv_idle : Inv (demo .iterated .std [⟨0x1018, 9⟩]) :=
  ⟨by decide, by decide, by decide, by decide, by decide, nofun, nofun⟩

theorem witness_inv_busy : Inv (demoBusy [⟨0x2000, 0⟩]) :=
  ⟨by decide, by decide, by decide, by decide, by decide, nofun, nofun⟩

theorem witness_inv_waiting : Inv (demoWaiting true) := by
  refine ⟨by decide, by decide, by decide, by decide, by decide, ?_, nofun⟩
  intro r h _
  cases h
  rfl

theorem witness_DecodeOfEncode :
    (Instr.ldlane 255 0xFFFFFFFFFFFFFFFF).wellFormed = true ∧ (Instr.rdlane 0).wellFormed = true ∧
      (Instr.permute 255).wellFormed = true := by decide

theorem witness_EncodeOfDecode :
    (decode ⟨0x10FF, 9⟩ = .ok (.ldlane 255 9) ∧ (Command.mk 0x10FF 9).op = 1#4) ∧
      (decode ⟨0x2000, 9⟩ = .ok (.rdlane 0) ∧ (Command.mk 0x2000 9).op ≠ 1#4) := by decide

theorem witness_DecodeIsMatchAndMask :
    (0x10FF : BitVec 16) &&& 0xFF00 = 0x1000 ∧ (0x2000 : BitVec 16) &&& 0xFF00 = 0x2000 ∧
      (0x3019 : BitVec 16) &&& 0xFF00 = 0x3000 ∧ (0x3100 : BitVec 16) &&& 0xFF00 ≠ 0x1000 ∧
      (0x3100 : BitVec 16) &&& 0xFF00 ≠ 0x2000 ∧ (0x3100 : BitVec 16) &&& 0xFF00 ≠ 0x3000 := by decide

theorem witness_EncodedWordIsOpcodeAndArgument : (encode (.permute 255)).word.toNat = 3 * 2 ^ 12 ||| 255 := by decide

theorem witness_UnusedDataWordIsIgnored :
    Ready (demo .iterated .std []) ∧ (0x2003 : BitVec 16).extractLsb' 12 4 ≠ 1#4 :=
  ⟨witness_ready _ _ _, by decide⟩

/-- Both ends of the rotate, and the bit that wraps. -/
theorem witness_RotlMovesEveryBit :
    rotl 0x8000000000000001 1 = 3 ∧ rotl 2 63 = 1 ∧ (63 + 1) % 64 = 0 := by decide

theorem witness_ThetaConsequences :
    stateA[laneAt 0 2] ≠ 0 ∧ (stateA.set 10 0)[laneAt 0 2] = 0 ∧ (stateA.set 15 0)[laneAt 0 3] = 0 ∧
      (stateA.set 20 0)[laneAt 0 4] = 0 := by decide

theorem witness_RhoPiIsParallelAssignment :
    ((10, 1, 1) : Fin 25 × Fin 25 × Nat) ∈ rhoPiTriples ∧ (24 : Fin 25) ≠ 0 := by decide

theorem witness_RhoPiChainForDistinctDestinations :
    (∀ i j : Fin 24, tables.piln[i] = tables.piln[j] → i = j) ∧ ∀ i : Fin 24, tables.piln[i] ≠ 0 := by decide

theorem witness_ChiConsequences :
    (∀ x : Fin 5, (Vector.replicate 25 7 : Lanes)[laneAt x 4] = (Vector.replicate 25 7 : Lanes)[laneAt 0 4]) ∧
      (∀ x' : Fin 5, x' ≠ 2 → (zeroLanes.set 12 9)[laneAt x' 2] = 0) ∧ (zeroLanes.set 12 9)[laneAt 2 2] = 9 := by
  decide

theorem witness_IotaTouchesLaneZero : (24 : Fin 25) ≠ 0 ∧ (iota tables 0 stateA)[(0 : Fin 25)] = 0 := by decide

theorem witness_IotaConsequences :
    tables.rc[(5 : Fin 24)] = tables.rc[(22 : Fin 24)] ∧ tables.rc[(20 : Fin 24)] = tables.rc[(6 : Fin 24)] ∧
      (iota tables 23 stateA)[0].getLsbD 63 ≠ stateA[0].getLsbD 63 := by decide

theorem witness_RoundsCountUpFromZero :
    runRounds tables .std 1 (by decide) zeroLanes = zeroLanes.set 0 1 := by decide

theorem witness_LdlaneWritesOneLane :
    nextOf (exec (.ldlane 24 7) (demo .iterated .std [])) =
        some { demo .iterated .std [] with lanes := stateA.set 24 7, rsp := some ⟨.ok, 0⟩ } ∧
      nextOf (exec (.ldlane 25 7) (demo .iterated .std [])) =
        some { demo .iterated .std [] with rsp := some ⟨.errIndex, 0⟩ } := by decide

theorem witness_LdlaneFrame :
    ∃ t, exec (.ldlane 3 9) (demo .iterated .std []) = .next t ∧ t.lanes[3] = 9 ∧ t.lanes[4] = 5 :=
  ⟨_, rfl, by decide⟩

theorem witness_RdlaneReturnsLane :
    nextOf (exec (.rdlane 24) (demo .unrolled .mul [])) =
        some { demo .unrolled .mul [] with rsp := some ⟨.ok, 25⟩ } ∧
      nextOf (exec (.rdlane 25) (demo .unrolled .mul [])) =
        some { demo .unrolled .mul [] with rsp := some ⟨.errIndex, 0⟩ } := by decide

theorem witness_RdlaneAfterLdlane :
    Ready (demo .iterated .std [⟨0x1018, 9⟩, ⟨0x2018, 0⟩]) ∧
      (demo .iterated .std [⟨0x1018, 9⟩, ⟨0x2018, 0⟩]).rspReady = true ∧
      decode ⟨0x1018, 9⟩ = .ok (.ldlane (24 : Fin 25).val 9) ∧ decode ⟨0x2018, 0⟩ = .ok (.rdlane (24 : Fin 25).val) ∧
      decode ⟨0x2000, 0⟩ = .ok (.rdlane (0 : Fin 25).val) :=
  ⟨witness_ready _ _ _, rfl, by decide, by decide, by decide⟩

/-- A legal LDLANE, a rejected one and an RDLANE. -/
theorem witness_LaneCommandsAreIdempotent :
    Ready (demo .unrolled .std [⟨0x1018, 9⟩, ⟨0x1018, 9⟩]) ∧
      (demo .unrolled .std [⟨0x1018, 9⟩, ⟨0x1018, 9⟩]).rspReady = true ∧
      decode ⟨0x1018, 9⟩ = .ok (.ldlane 24 9) ∧ decode ⟨0x1019, 9⟩ = .ok (.ldlane 25 9) ∧
      decode ⟨0x2018, 9⟩ = .ok (.rdlane 24) ∧ ∀ n, Instr.ldlane 24 9 ≠ .permute n :=
  ⟨witness_ready _ _ _, rfl, by decide, by decide, by decide, fun _ => nofun⟩

theorem witness_LoadOrderIsIrrelevant :
    Ready (demo .iterated .mul []) ∧ (demo .iterated .mul []).rspReady = true ∧
      [((3 : Fin 25), (7 : Word)), (24, 8)].Perm [(24, 8), (3, 7)] ∧
      ([((3 : Fin 25), (7 : Word)), (24, 8)].map Prod.fst).Nodup ∧
      (23 : Fin 25) ∉ [((3 : Fin 25), (7 : Word)), (24, 8)].map Prod.fst :=
  ⟨witness_ready _ _ _, rfl, .swap _ _ _, by decide, by decide⟩

theorem witness_PermuteIsAccepted :
    ((demo .iterated .std []).params.impl = .iterated ∧
      nextOf (exec (.permute 24) (demo .iterated .std [])) =
        some { demo .iterated .std [] with rnds := 24, ridx := 0, busy := true }) ∧
    (demo .unrolled .mul []).params.impl = .unrolled ∧
      nextOf (exec (.permute 0) (demo .unrolled .mul [])) =
        some { demo .unrolled .mul [] with rsp := some ⟨.ok, 0⟩ } := by decide

theorem witness_PermuteAbove24IsRejected :
    nextOf (exec (.permute 25) (demo .unrolled .std [])) =
      some { demo .unrolled .std [] with rsp := some ⟨.errRounds, 0⟩ } := by decide

theorem witness_IteratedPermuteRoundByRound :
    Ready (demo .iterated .std [⟨0x3018, 0⟩]) ∧ (demo .iterated .std [⟨0x3018, 0⟩]).params.impl = .iterated ∧
      (demo .iterated .std [⟨0x3018, 0⟩]).offered = ⟨0x3018, 0⟩ :: [] ∧ decode ⟨0x3018, 0⟩ = .ok (.permute 24) :=
  ⟨witness_ready _ _ _, rfl, rfl, by decide⟩

theorem witness_OrganisationsAgreeOnPermute :
    Ready (demo .iterated .mul [⟨0x3001, 5⟩]) ∧
      demo .unrolled .mul [⟨0x3001, 5⟩] = { demo .iterated .mul [⟨0x3001, 5⟩] with
        params := { (demo .iterated .mul [⟨0x3001, 5⟩]).params with impl := .unrolled } } ∧
      decode ⟨0x3001, 5⟩ = .ok (.permute 1) := ⟨witness_ready _ _ _, rfl, by decide⟩

theorem witness_PermuteZeroIsIdentity :
    Ready (demoUnwritten 9 [⟨0x3000, 0⟩]) ∧ (demoUnwritten 9 [⟨0x3000, 0⟩]).offered = ⟨0x3000, 0⟩ :: [] ∧
      decode ⟨0x3000, 0⟩ = .ok (.permute 0) := ⟨⟨rfl, rfl, rfl⟩, rfl, by decide⟩

theorem witness_PermuteIsPure :
    Ready (demo .iterated .std [⟨0x3018, 0⟩]) ∧ Ready (demo .unrolled .std [⟨0x3018, 7⟩, ⟨0, 0⟩]) ∧
      (demo .iterated .std [⟨0x3018, 0⟩]).lanes = (demo .unrolled .std [⟨0x3018, 7⟩, ⟨0, 0⟩]).lanes ∧
      decode ⟨0x3018, 0⟩ = .ok (.permute 24) ∧ decode ⟨0x3018, 7⟩ = .ok (.permute 24) :=
  ⟨witness_ready _ _ _, witness_ready _ _ _, rfl, by decide, by decide⟩

/-- PERMUTE 24 and PERMUTE 0 in an ITERATED engine, PERMUTE 1 twice on zeros in an UNROLLED one. -/
theorem witness_PermuteRestartsAtRoundZero :
    Ready (demo .iterated .mul [⟨0x3018, 0⟩, ⟨0x3000, 0⟩]) ∧ decode ⟨0x3018, 0⟩ = .ok (.permute 24) ∧
      decode ⟨0x3000, 0⟩ = .ok (.permute 0) ∧ decode ⟨0x3001, 0⟩ = .ok (.permute 1) ∧
      Ready { demo .unrolled .std [⟨0x3001, 0⟩, ⟨0x3001, 0⟩] with lanes := zeroLanes } :=
  ⟨witness_ready _ _ _, by decide, by decide, by decide, ⟨rfl, rfl, rfl⟩⟩

theorem witness_KnownAnswerOfStandardVariant :
    Ready (demo .unrolled .std (commands (ldstate zeroLanes ++ keccakf ++ rdstate))) ∧
      (demo .unrolled .std (commands (ldstate zeroLanes ++ keccakf ++ rdstate))).params.variant = .std ∧
      (commands (ldstate zeroLanes ++ keccakf ++ rdstate)).length = 51 := ⟨witness_ready _ _ _, rfl, by decide⟩

theorem witness_LoadPermuteReadBack :
    Ready (demo .iterated .mul (commands (ldstate stateA ++ [.permute 24] ++ rdstate))) ∧
      (commands (ldstate stateA ++ [.permute 24] ++ rdstate))[24]? = some ⟨0x1018, 25⟩ :=
  ⟨witness_ready _ _ _, by decide⟩

theorem witness_StepRunsDecodedCommand :
    Ready (demo .iterated .std [⟨0x1003, 9⟩]) ∧ decode ⟨0x1003, 9⟩ = .ok (.ldlane 3 9) ∧
      decode ⟨0x2003, 9⟩ = .ok (.rdlane 3) ∧ decode ⟨0x3003, 9⟩ = .ok (.permute 3) :=
  ⟨witness_ready _ _ _, by decide, by decide, by decide⟩

theorem witness_PlacedCommandRunsNext :
    decodeTableWord 16 0x1003 = some (.ldlane 3 0) ∧ decodeTableWord 16 0x2003 = some (.rdlane 3) ∧
      decodeTableWord 16 0x3003 = some (.permute 3) := by decide

theorem witness_IllegalWordIsRejected :
    Ready (demo .iterated .std [⟨0x3118, 9⟩]) ∧ (Command.mk 0x3118 9).rsv ≠ 0#4 ∧ (Command.mk 0x0000 9).op ≠ 1#4 ∧
      (Command.mk 0x0000 9).op ≠ 2#4 ∧ (Command.mk 0x0000 9).op ≠ 3#4 ∧ (Command.mk 0xF018 9).op ≠ 3#4 :=
  ⟨witness_ready _ _ _, by decide, by decide, by decide, by decide, by decide⟩

theorem witness_RejectionIsPrecise :
    Ready (demo .iterated .std [⟨0x3019, 0⟩]) ∧ errorOf ⟨0x3019, 0⟩ = some .errRounds ∧
      errorOf ⟨0x1019, 0⟩ = some .errIndex ∧ errorOf ⟨0x2019, 0⟩ = some .errIndex ∧
      errorOf ⟨0x31FF, 0⟩ = some .errIllegal ∧ errorOf ⟨0x3018, 0⟩ = none :=
  ⟨witness_ready _ _ _, by decide, by decide, by decide, by decide, by decide⟩

theorem witness_DecodeCheckComesFirst :
    (Command.mk 0x31FF 0).rsv ≠ 0#4 ∧ ({ demoBusy [⟨0x31FF, 0⟩] with rst := true } : State).rst = true ∧
      ((Command.mk 0x3019 0).rsv = 0#4 ∧ (Command.mk 0x3019 0).op = 3#4 ∧ 24 < (Command.mk 0x3019 0).arg.toNat) ∧
      ((Command.mk 0x1019 0).rsv = 0#4 ∧ (Command.mk 0x1019 0).op = 1#4 ∧ 24 < (Command.mk 0x1019 0).arg.toNat) ∧
      (Command.mk 0x20FF 0).rsv = 0#4 ∧ (Command.mk 0x20FF 0).op = 2#4 ∧ 24 < (Command.mk 0x20FF 0).arg.toNat := by
  decide

theorem witness_ResponseIsDelivered :
    (demoWaiting true).rst = false ∧ (demoWaiting true).rsp = some ⟨.errIndex, 0⟩ ∧
      (demoWaiting true).rspReady = true ∧ (demoWaiting false).rspReady = false := by decide

theorem witness_IdleEngineDoesNothing :
    Ready (demo .iterated .std []) ∧ (demo .iterated .std []).offered = [] := ⟨witness_ready _ _ _, rfl⟩

theorem witness_OfferedCommandWaits :
    (demoBusy [⟨0x2000, 0⟩]).rst = false ∧ (demoBusy [⟨0x2000, 0⟩]).cmdReady = false ∧
      (∃ t, step (demoBusy [⟨0x2000, 0⟩]) = .next t) ∧ (demoWaiting false).cmdReady = false :=
  ⟨by decide, by decide, ⟨_, rfl⟩, by decide⟩

theorem witness_OneResponsePerCommand :
    Inv (demoWaiting true) ∧ (demoWaiting true).rst = false ∧ ∃ t, step (demoWaiting true) = .next t ∧
      t.received = [⟨.errIndex, 0⟩] := ⟨witness_inv_waiting, rfl, _, rfl, by decide⟩

theorem witness_ResetAbandonsEverything :
    ({ demoBusy [] with rst := true } : State).rst = true ∧ (demoBusy []).busy = true := by decide

theorem witness_StepKeepsTheInvariant :
    Inv (demoBusy [⟨0x2000, 0⟩]) ∧ ∃ t, step (demoBusy [⟨0x2000, 0⟩]) = .next t ∧ t.ridx = 3 :=
  ⟨witness_inv_busy, _, rfl, by decide⟩

theorem witness_EngineNeverStops : Inv (demo .iterated .std [⟨0x1018, 9⟩]) := witness_inv_idle

theorem witness_BusyEngineFinishes :
    Inv (demoBusy [⟨0x2000, 0⟩]) ∧ (demoBusy [⟨0x2000, 0⟩]).rst = false ∧ (demoBusy [⟨0x2000, 0⟩]).busy = true :=
  ⟨witness_inv_busy, rfl, rfl⟩

theorem witness_EngineServesEveryScript :
    Ready (demo .iterated .std [⟨0x3018, 0⟩, ⟨0x0000, 0⟩, ⟨0x2018, 0⟩]) ∧
      (demo .iterated .std [⟨0x3018, 0⟩, ⟨0x0000, 0⟩, ⟨0x2018, 0⟩]).rspReady = true := ⟨witness_ready _ _ _, rfl⟩

theorem witness_OrganisationsIndistinguishable :
    Ready (demo .iterated .mul [⟨0x3018, 0⟩]) ∧ Ready (demo .unrolled .mul [⟨0x3018, 0⟩]) ∧
      (demo .iterated .mul [⟨0x3018, 0⟩]).lanes = (demo .unrolled .mul [⟨0x3018, 0⟩]).lanes ∧
      (demo .iterated .mul [⟨0x3018, 0⟩]).params.variant = (demo .unrolled .mul [⟨0x3018, 0⟩]).params.variant ∧
      (demo .iterated .mul [⟨0x3018, 0⟩]).offered = (demo .unrolled .mul [⟨0x3018, 0⟩]).offered :=
  ⟨witness_ready _ _ _, witness_ready _ _ _, rfl, rfl, rfl⟩

theorem witness_LanesChangeOnlyBy :
    ∃ t, step (demo .iterated .std [⟨0x1003, 9⟩]) = .next t ∧
      t.lanes[(3 : Fin 25)] ≠ (demo .iterated .std [⟨0x1003, 9⟩]).lanes[(3 : Fin 25)] := ⟨_, rfl, by decide⟩

/-- The first clause on an LDLANE of the unwritten lane, the second on a round with a lane unwritten. -/
theorem witness_SpecifiedOnlyByLdlane :
    (∃ t, step (demoUnwritten 9 [⟨0x1003, 5⟩]) = .next t ∧ t.written[(3 : Fin 25)] = true) ∧
    ∃ t, step { demoUnwritten 9 [] with rnds := 1, busy := true } = .next t ∧
      ({ demoUnwritten 9 [] with rnds := 1, busy := true } : State).allWritten = false ∧
      t.written[(0 : Fin 25)] = false := ⟨⟨_, rfl, by decide⟩, _, rfl, by decide, by decide⟩

theorem witness_ParametersNeverChange :
    ∃ t, step { demo .unrolled .mul [] with rst := true } = .next t ∧ t.params = ⟨.mul, .unrolled⟩ :=
  ⟨_, rfl, rfl⟩

theorem witness_UnwrittenLanesNeverLeak :
    AgreeOnWritten (demoUnwritten 9 [⟨0x2004, 0⟩]) (demoUnwritten 8 [⟨0x2004, 0⟩]) ∧
      (demoUnwritten 9 []).lanes ≠ (demoUnwritten 8 []).lanes ∧
      (∃ t, step (demoUnwritten 9 [⟨0x2004, 0⟩]) = .next t ∧ t.rsp = some ⟨.ok, 5⟩) ∧
      decode ⟨0x2004, 0⟩ = .ok (.rdlane 4) ∧
      usesOnlyWritten (demoUnwritten 9 [⟨0x2004, 0⟩]) (.rdlane 4) = true ∧
      usesOnlyWritten (demoUnwritten 9 []) (.rdlane 3) = false :=
  ⟨⟨rfl, by decide⟩, by decide, ⟨_, rfl, by decide⟩, by decide, by decide, by decide⟩

/-- Different lanes, and different variants. -/
theorem witness_ControlIgnoresLanes :
    SameControl (demoUnwritten 9 [⟨0x2003, 0⟩]) (demoUnwritten 8 [⟨0x2003, 0⟩]) ∧
      (demoUnwritten 9 []).lanes ≠ (demoUnwritten 8 []).lanes ∧
      SameControl (demo .unrolled .std [⟨0x3018, 0⟩]) (demo .unrolled .mul [⟨0x3018, 0⟩]) :=
  ⟨⟨rfl, rfl, rfl, rfl, rfl, rfl, rfl, rfl, rfl⟩, by decide, ⟨rfl, rfl, rfl, rfl, rfl, rfl, rfl, rfl, rfl⟩⟩

end Sys2Proof.Tests
end

section
/-! PROOFS. Lane coordinates and the rotate (00_scope.md R6, R7), and the parameters every step keeps (R2;
70_reset_and_hazards.md R108). -/

namespace Sys2Proof.Machine

/-! ## Lane coordinates -/

/-- Settles O7: the three coordinate functions invert each other, and their values are R7's by definition. -/
theorem laneCoordinates : Obligations.LaneCoordinates := by
  unfold Obligations.LaneCoordinates
  constructor
  · intro x y
    exact ⟨rfl, colOf_laneAt x y, rowOf_laneAt x y⟩
  · intro i
    exact ⟨rfl, rfl, laneAt_colOf_rowOf i⟩

/-! ## The rotate -/

/-- The two halves of the rotate share no bit: below bit `n` the left shift holds zeros, and from there on the right
shift does. -/
theorem shiftLeft_and_ushiftRight_eq_zero (v : Word) {n : Nat} (hn : n ≤ 64) :
    v <<< n &&& v >>> (64 - n) = 0#64 := by
  apply BitVec.eq_of_getLsbD_eq
  intro j _
  by_cases h : j < n
  · simp [h]
  · simp [BitVec.getLsbD_of_ge v (64 - n + j) (by omega)]

/-- R6's arithmetic form: halves that share no bit are ORed as they are added. -/
theorem rotl_toNat (v : Word) {n : Nat} (hn : n ≤ 64) :
    (rotl v n).toNat = v.toNat * 2 ^ n % 2 ^ 64 + v.toNat / 2 ^ (64 - n) := by
  have hdisj := shiftLeft_and_ushiftRight_eq_zero v hn
  calc (rotl v n).toNat
      = (v <<< n + v >>> (64 - n)).toNat := by rw [rotl, BitVec.add_eq_or_of_and_eq_zero _ _ hdisj]
    _ = (v <<< n).toNat + (v >>> (64 - n)).toNat := BitVec.toNat_add_of_and_eq_zero hdisj
    _ = v.toNat * 2 ^ n % 2 ^ 64 + v.toNat / 2 ^ (64 - n) := by
      rw [BitVec.toNat_shiftLeft, BitVec.toNat_ushiftRight, Nat.shiftLeft_eq, Nat.shiftRight_eq_div_pow]

/-- Bit `i` goes to bit `i + n`, or wraps round to bit `i + n - 64` (R6). -/
theorem rotl_getLsbD_add_mod (v : Word) {n i : Nat} (h1 : 1 ≤ n) (h2 : n ≤ 63) (hi : i < 64) :
    (rotl v n).getLsbD ((i + n) % 64) = v.getLsbD i := by
  rw [rotl_getLsbD v n _ h1 h2 (Nat.mod_lt _ (by decide))]
  by_cases hwrap : i + n < 64
  · rw [Nat.mod_eq_of_lt hwrap, if_neg (by omega), Nat.add_sub_cancel]
  · have hmod : (i + n) % 64 = i + n - 64 := by omega
    have hback : 64 - n + (i + n - 64) = i := by omega
    rw [hmod, if_pos (by omega), hback]

/-- Every rotation amount of the chain is one R6 is about (20_memory.md R28). -/
theorem rotc_bounds : ∀ i : Fin 24, 1 ≤ tables.rotc[i] ∧ tables.rotc[i] ≤ 63 := by decide

/-- Settles O8, from the two forms of the rotate and the bounds on ROTC. -/
theorem rotlMovesEveryBit : Obligations.RotlMovesEveryBit := by
  unfold Obligations.RotlMovesEveryBit
  refine ⟨fun v n h1 h2 => ⟨rotl_toNat v (by omega), fun i hi => ?_⟩, rotc_bounds⟩
  exact rotl_getLsbD_add_mod v h1 h2 hi

/-! ## The parameters -/

@[simp] theorem permuteAtOnce_params (n : Fin 25) (s : State) : (permuteAtOnce n s).params = s.params := by
  by_cases h : n.val = 0 <;> simp [permuteAtOnce, h]

@[simp] theorem roundStep_params (r : Fin 24) (s : State) : (roundStep r s).params = s.params := by
  simp [roundStep]

/-- No command writes the parameters. -/
theorem exec_params {i : Instr} {s t : State} (h : exec i s = .next t) : t.params = s.params := by
  cases i with
  | ldlane idx value =>
    obtain ⟨_, _, he⟩ | ⟨_, he⟩ := execLdlane_cases idx value s
    all_goals simp [next_inj (he.symm.trans h)]
  | rdlane idx =>
    obtain ⟨_, _, he⟩ | ⟨_, he⟩ := execRdlane_cases idx s
    all_goals simp [next_inj (he.symm.trans h)]
  | permute n =>
    obtain ⟨_, _, _, he⟩ | ⟨_, _, _, he⟩ | ⟨_, he⟩ := execPermute_cases n s
    all_goals simp [next_inj (he.symm.trans h)]

/-- Nor does a round step or the completion step; the three faults answer no next state. -/
theorem sequencerStep_params {s t : State} (h : sequencerStep s = .next t) : t.params = s.params := by
  obtain ⟨_, he⟩ | ⟨_, _, he⟩ | ⟨_, _, _, _, he⟩ | ⟨_, _, _, he⟩ | ⟨_, _, _, he⟩ := sequencerStep_cases s
  · exact (fault_ne_next (he.symm.trans h)).elim
  · simp [next_inj (he.symm.trans h)]
  · simp [next_inj (he.symm.trans h)]
  · exact (fault_ne_next (he.symm.trans h)).elim
  · exact (fault_ne_next (he.symm.trans h)).elim

/-- No event of the engine writes the parameters, a reset included (70_reset_and_hazards.md R108). -/
theorem step_params {s t : State} (h : step s = .next t) : t.params = s.params := by
  obtain ⟨_, he⟩ | ⟨_, _, _, ⟨_, he⟩ | ⟨_, he⟩⟩ | ⟨_, _, _, he⟩ | ⟨_, _, _, _, he⟩ |
    ⟨_, _, _, _, _, _, ⟨_, _, he⟩ | ⟨_, _, he⟩⟩ := step_cases s
  · -- reset
    rw [next_inj (he.symm.trans h), takeReset_params]
  · -- delivery
    rw [next_inj (he.symm.trans h), deliver_params]
  · -- a response waits
    rw [next_inj (he.symm.trans h)]
  · -- the sequencer
    exact sequencerStep_params (he.symm.trans h)
  · -- nothing on the port
    rw [next_inj (he.symm.trans h)]
  · -- an illegal word
    rw [next_inj (he.symm.trans h), reject_params]
  · -- a command, which runs with the port one command on
    have hkeep := exec_params (he.symm.trans h)
    exact hkeep

/-- Settles O56: it is what one step keeps, over all its events. -/
theorem parametersNeverChange : Obligations.ParametersNeverChange := by
  unfold Obligations.ParametersNeverChange
  intro s t h
  exact step_params h

end Sys2Proof.Machine
end

section
/-! PROOFS. What one step does, as a list of the engine's events: each names what enables it and the state it leaves, so
that a claim about every step is a claim about every event. -/

namespace Sys2Proof.Machine

/-! ## UNROLLED PERMUTE by its count -/

/-- UNROLLED PERMUTE 0 leaves the lanes and their ghost bits (44_round_and_permute.md R81). -/
theorem permuteAtOnce_of_zero {n : Fin 25} (hn : n.val = 0) (s : State) :
    permuteAtOnce n s = respond .ok 0 (leaveCount n s) := by simp [permuteAtOnce, hn]

/-- UNROLLED PERMUTE of at least one round puts the rounds' result in the lanes (R83). -/
theorem permuteAtOnce_of_ne_zero {n : Fin 25} (hn : n.val ≠ 0) (s : State) :
    permuteAtOnce n s = respond .ok 0 (leaveCount n
      (putRounds (runRounds tables s.params.variant n.val (Nat.le_of_lt_succ n.isLt) s.lanes) s)) := by
  simp [permuteAtOnce, hn]

/-! ## The error a command ends in -/

/-- The range check of a legal word's opcode (60_exceptions.md R94, R95). -/
def rangeError : Instr → Option RspCode
  | .ldlane idx _ => if idx ≤ 24 then none else some .errIndex
  | .rdlane idx => if idx ≤ 24 then none else some .errIndex
  | .permute n => if n ≤ 24 then none else some .errRounds

/-- A word that decodes ends in the error of its range check, if any (R99). -/
theorem errorOf_of_decode_ok {c : Command} {i : Instr} (h : decode c = .ok i) : errorOf c = rangeError i := by
  obtain ⟨h0, hop, hd⟩ | ⟨h0, hop, hd⟩ | ⟨h0, hop, hd⟩ | ⟨_, _, hd⟩ := decode_cases c
  on_goal 4 => exact nomatch hd.symm.trans h
  all_goals
    obtain rfl := Except.ok.inj (hd.symm.trans h)
    simp [errorOf, rangeError, h0, hop]

/-- A word that does not decode is illegal (R96). -/
theorem errorOf_of_decode_error {c : Command} {e : DecodeError} (h : decode c = .error e) :
    errorOf c = some .errIllegal := by
  obtain ⟨_, _, hd⟩ | ⟨_, _, hd⟩ | ⟨_, _, hd⟩ | ⟨hill, _⟩ := decode_cases c
  on_goal 4 => rw [errorOf, if_pos hill]
  all_goals exact nomatch hd.symm.trans h

/-- A command out of its range is rejected, whatever the state (R94, R95, R100). -/
theorem exec_of_rangeError {i : Instr} {code : RspCode} (h : rangeError i = some code) (s : State) :
    exec i s = .next (reject code s) := by
  cases i with
  | ldlane idx value =>
    obtain ⟨hgt, rfl⟩ : 24 < idx ∧ RspCode.errIndex = code := by simpa [rangeError] using h
    simp [exec, execLdlane, laneIndex?_of_gt hgt]
  | rdlane idx =>
    obtain ⟨hgt, rfl⟩ : 24 < idx ∧ RspCode.errIndex = code := by simpa [rangeError] using h
    simp [exec, execRdlane, laneIndex?_of_gt hgt]
  | permute n =>
    obtain ⟨hgt, rfl⟩ : 24 < n ∧ RspCode.errRounds = code := by simpa [rangeError] using h
    simp [exec, execPermute, roundCount?_of_gt hgt]

/-- A command with an error is rejected with it, whatever the state (R99, R100). -/
theorem acceptCommand_of_errorOf {c : Command} {code : RspCode} (h : errorOf c = some code) (s : State) :
    acceptCommand c s = .next (reject code s) := by
  cases hd : decode c with
  | error e =>
    obtain rfl := Option.some.inj ((errorOf_of_decode_error hd).symm.trans h)
    simp [acceptCommand, hd]
  | ok i =>
    rw [errorOf_of_decode_ok hd] at h
    simpa [acceptCommand, hd] using exec_of_rangeError h s

/-! ## The events -/

/-- The events of the engine, from `s` to the state each leaves, in the order of R88 and R99: the steps that answer a next
state (`step_iff_event`). -/
inductive Event (s : State) : State → Prop
  /-- The requested reset (R107). -/
  | reset (hrst : s.rst = true) : Event s (takeReset s)
  /-- The host takes the waiting response (R50, R101). -/
  | delivery {r : Response} (hrst : s.rst = false) (hrsp : s.rsp = some r) (htake : s.rspReady = true) :
      Event s (deliver r s)
  /-- The response goes on waiting (R49). -/
  | waiting {r : Response} (hrst : s.rst = false) (hrsp : s.rsp = some r) (hwait : s.rspReady = false) : Event s s
  /-- A round step (R82). -/
  | round {r : Fin 24} (hrst : s.rst = false) (hrsp : s.rsp = none) (hbusy : s.busy = true)
      (himpl : s.params.impl = .iterated) (hdue : s.ridx < s.rnds) (hr : r.val = s.ridx.toNat) :
      Event s (roundStep r s)
  /-- The completion step (R82). -/
  | completion (hrst : s.rst = false) (hrsp : s.rsp = none) (hbusy : s.busy = true)
      (himpl : s.params.impl = .iterated) (hdone : s.ridx = s.rnds) : Event s (finishRounds s)
  /-- An idle engine with nothing on its port (R88). -/
  | nothing (hready : Ready s) (hport : s.offered = []) : Event s s
  /-- The acceptance of a command that is rejected (R100). -/
  | rejection {c : Command} {rest : List Command} {code : RspCode} (hready : Ready s) (hport : s.offered = c :: rest)
      (herr : errorOf c = some code) : Event s (reject code { s with offered := rest })
  /-- The acceptance of a legal LDLANE (R89). -/
  | load {c : Command} {rest : List Command} {i : Fin 25} {value : Word} (hready : Ready s)
      (hport : s.offered = c :: rest) (hdec : decode c = .ok (.ldlane i.val value)) :
      Event s (respond .ok 0 (writeLane i value { s with offered := rest }))
  /-- The acceptance of a legal RDLANE (R90). -/
  | read {c : Command} {rest : List Command} {i : Fin 25} (hready : Ready s) (hport : s.offered = c :: rest)
      (hdec : decode c = .ok (.rdlane i.val)) : Event s (respond .ok (readLane i s) { s with offered := rest })
  /-- The acceptance of a legal PERMUTE by an ITERATED engine (R82). -/
  | start {c : Command} {rest : List Command} {n : Fin 25} (hready : Ready s) (hport : s.offered = c :: rest)
      (hdec : decode c = .ok (.permute n.val)) (himpl : s.params.impl = .iterated) :
      Event s (startRounds n { s with offered := rest })
  /-- A legal PERMUTE in an UNROLLED engine (R83). -/
  | atOnce {c : Command} {rest : List Command} {n : Fin 25} (hready : Ready s) (hport : s.offered = c :: rest)
      (hdec : decode c = .ok (.permute n.val)) (himpl : s.params.impl = .unrolled) :
      Event s (permuteAtOnce n { s with offered := rest })

/-- The outcome has one next state, so the event that leaves it is the event that led to `t`. -/
theorem event_of_outcome {s t u : State} {o : Host.Outcome State Fault Refusal} (hu : o = .next u) (ht : o = .next t)
    (he : Event s u) : Event s t :=
  next_inj (hu.symm.trans ht) ▸ he

/-- A command that decodes, once accepted: it is rejected or has the effect of its row. -/
theorem event_of_exec {s t : State} {c : Command} {rest : List Command} {i : Instr} (hready : Ready s)
    (hport : s.offered = c :: rest) (hdec : decode c = .ok i) (h : exec i { s with offered := rest } = .next t) :
    Event s t := by
  have herr := errorOf_of_decode_ok hdec
  cases i with
  | ldlane idx value =>
    obtain ⟨i, rfl, he⟩ | ⟨hgt, he⟩ := execLdlane_cases idx value { s with offered := rest }
    · exact event_of_outcome he h (.load hready hport hdec)
    · exact event_of_outcome he h (.rejection hready hport (herr.trans (if_neg (by omega))))
  | rdlane idx =>
    obtain ⟨i, rfl, he⟩ | ⟨hgt, he⟩ := execRdlane_cases idx { s with offered := rest }
    · exact event_of_outcome he h (.read hready hport hdec)
    · exact event_of_outcome he h (.rejection hready hport (herr.trans (if_neg (by omega))))
  | permute n =>
    obtain ⟨n, rfl, himpl, he⟩ | ⟨n, rfl, himpl, he⟩ | ⟨hgt, he⟩ := execPermute_cases n { s with offered := rest }
    · exact event_of_outcome he h (.start hready hport hdec himpl)
    · exact event_of_outcome he h (.atOnce hready hport hdec himpl)
    · exact event_of_outcome he h (.rejection hready hport (herr.trans (if_neg (by omega))))

/-- A busy engine that does not stop takes a round step or the completion step. -/
theorem event_of_sequencerStep {s t : State} (hrst : s.rst = false) (hrsp : s.rsp = none) (hbusy : s.busy = true)
    (h : sequencerStep s = .next t) : Event s t := by
  obtain ⟨_, he⟩ | ⟨himpl, hdone, he⟩ | ⟨himpl, hdue, r, hr, he⟩ | ⟨_, _, _, he⟩ | ⟨_, _, _, he⟩ :=
    sequencerStep_cases s
  · exact (fault_ne_next (he.symm.trans h)).elim
  · exact event_of_outcome he h (.completion hrst hrsp hbusy himpl hdone)
  · exact event_of_outcome he h (.round hrst hrsp hbusy himpl hdue hr)
  · exact (fault_ne_next (he.symm.trans h)).elim
  · exact (fault_ne_next (he.symm.trans h)).elim

/-- A step that answers is one of the events. -/
theorem event_of_step {s t : State} (h : step s = .next t) : Event s t := by
  obtain ⟨hrst, he⟩ | ⟨hrst, r, hrsp, ⟨htake, he⟩ | ⟨hwait, he⟩⟩ | ⟨hrst, hrsp, hbusy, he⟩ |
    ⟨hrst, hrsp, hbusy, hport, he⟩ | ⟨hrst, hrsp, hbusy, c, rest, hport, ⟨e, hdec, he⟩ | ⟨i, hdec, he⟩⟩ := step_cases s
  · exact event_of_outcome he h (.reset hrst)
  · exact event_of_outcome he h (.delivery hrst hrsp htake)
  · exact event_of_outcome he h (.waiting hrst hrsp hwait)
  · exact event_of_sequencerStep hrst hrsp hbusy (he.symm.trans h)
  · exact event_of_outcome he h (.nothing ⟨hrst, hbusy, hrsp⟩ hport)
  · exact event_of_outcome he h (.rejection ⟨hrst, hbusy, hrsp⟩ hport (errorOf_of_decode_error hdec))
  · exact event_of_exec ⟨hrst, hbusy, hrsp⟩ hport hdec (he.symm.trans h)

/-- A ready engine accepts the command on its port (R88). -/
theorem step_of_ready {s : State} {c : Command} {rest : List Command} (hready : Ready s)
    (hport : s.offered = c :: rest) : step s = acceptCommand c { s with offered := rest } := by
  obtain ⟨hrst, hbusy, hrsp⟩ := hready
  simp [step, engineStep, hrst, hbusy, hrsp, hport]

/-- A busy engine with no response waiting takes the sequencer's step (R82). -/
theorem step_of_busy {s : State} (hrst : s.rst = false) (hrsp : s.rsp = none) (hbusy : s.busy = true) :
    step s = sequencerStep s := by
  simp [step, engineStep, hrst, hrsp, hbusy]

/-- Every event is the step of the state it is enabled in. -/
theorem step_of_event {s t : State} (h : Event s t) : step s = .next t := by
  cases h with
  | reset hrst => simp [step, engineStep, hrst]
  | delivery hrst hrsp htake => simp [step, engineStep, hrst, hrsp, htake]
  | waiting hrst hrsp hwait => simp [step, engineStep, hrst, hrsp, hwait]
  | round hrst hrsp hbusy himpl hdue hr =>
    have hne : s.ridx ≠ s.rnds := BitVec.ne_of_lt hdue
    simp [step_of_busy hrst hrsp hbusy, sequencerStep, himpl, hdue, hne, ← hr]
  | completion hrst hrsp hbusy himpl hdone =>
    simp [step_of_busy hrst hrsp hbusy, sequencerStep, himpl, hdone]
  | nothing hready hport =>
    obtain ⟨hrst, hbusy, hrsp⟩ := hready
    simp [step, engineStep, hrst, hbusy, hrsp, hport]
  | rejection hready hport herr => rw [step_of_ready hready hport, acceptCommand_of_errorOf herr]
  | load hready hport hdec =>
    simp [step_of_ready hready hport, acceptCommand, hdec, exec, execLdlane, laneIndex?_of_lt]
  | read hready hport hdec =>
    simp [step_of_ready hready hport, acceptCommand, hdec, exec, execRdlane, laneIndex?_of_lt, readLane]
  | start hready hport hdec himpl =>
    simp [step_of_ready hready hport, acceptCommand, hdec, exec, execPermute, roundCount?, himpl]
  | atOnce hready hport hdec himpl =>
    simp [step_of_ready hready hport, acceptCommand, hdec, exec, execPermute, roundCount?, himpl]

/-- The events are exactly the steps that answer a next state. -/
theorem step_iff_event {s t : State} : step s = .next t ↔ Event s t := ⟨event_of_step, step_of_event⟩

end Sys2Proof.Machine
end

section
/-! PROOFS. The invariant (10_state.md R12, R14, R15, R20; 30_encoding.md R42, R50): it holds after reset and every event
keeps it. -/

namespace Sys2Proof

open Machine

/-! ## The invariant, operation by operation -/

/-- A legal round count fits RNDS (R14). -/
theorem roundCount_toNat (n : Fin 25) : (BitVec.ofNat 5 n.val).toNat = n.val := by
  rw [BitVec.toNat_ofNat, Nat.mod_eq_of_lt (by omega)]

/-- It holds of an engine whose control is as R20 gives it. -/
theorem inv_of_cleared {s : State} (hridx : s.ridx = 0) (hrnds : s.rnds = 0) (hbusy : s.busy = false)
    (hrsp : s.rsp = none) (hreceived : ∀ r, r ∈ s.received → r.code ≠ .ok → r.data = 0) : Inv s where
  rnds_le := by simp [hrnds]
  ridx_le := by simp [hridx]
  idle_ridx _ := hridx.trans hrnds.symm
  busy_iterated h := by simp [hbusy] at h
  busy_rsp _ := hrsp
  rsp_data r h := by simp [hrsp] at h
  received_data := hreceived

theorem inv_offered {s : State} (hi : Inv s) (cs : List Command) : Inv { s with offered := cs } := { hi with }

theorem inv_writeLane {s : State} (hi : Inv s) (i : Fin 25) (value : Word) : Inv (writeLane i value s) :=
  { hi with }

theorem inv_respond {s : State} {code : RspCode} {data : Word} (hi : Inv s) (hidle : s.busy = false)
    (hdata : code ≠ .ok → data = 0) : Inv (respond code data s) :=
  { hi with
    busy_rsp := fun hbusy => absurd hbusy (by simp [hidle])
    rsp_data := fun _ hr => Option.some.inj hr ▸ hdata }

theorem inv_deliver {s : State} {r : Response} (hi : Inv s) (hrsp : s.rsp = some r) : Inv (deliver r s) :=
  { hi with
    busy_rsp := fun _ => rfl
    rsp_data := nofun
    received_data := fun q hq => by
      obtain hold | rfl : q ∈ s.received ∨ q = r := by simpa using hq
      · exact hi.received_data q hold
      · exact hi.rsp_data q hrsp }

theorem inv_startRounds {s : State} (hi : Inv s) (hrsp : s.rsp = none) (himpl : s.params.impl = .iterated)
    (n : Fin 25) : Inv (startRounds n s) :=
  { hi with
    rnds_le := by rw [startRounds_rnds, roundCount_toNat]; omega
    ridx_le := by simp
    idle_ridx := nofun
    busy_iterated := fun _ => himpl
    busy_rsp := fun _ => hrsp }

theorem inv_leaveCount {s : State} (hi : Inv s) (n : Fin 25) : Inv (leaveCount n s) :=
  { hi with
    rnds_le := by rw [leaveCount_rnds, roundCount_toNat]; omega
    ridx_le := le_rfl
    idle_ridx := fun _ => rfl }

theorem inv_putRounds {s : State} (hi : Inv s) (S : Lanes) : Inv (putRounds S s) := { hi with }

/-- RIDX, below RNDS, counts up without wrapping (R12). -/
theorem inv_nextRound {s : State} (hi : Inv s) (hbusy : s.busy = true) (hdue : s.ridx < s.rnds) :
    Inv (nextRound s) :=
  { hi with
    ridx_le := by
      have hle := hi.rnds_le
      rw [BitVec.lt_def] at hdue
      rw [nextRound_ridx, nextRound_rnds, BitVec.toNat_add_of_lt (by simp; omega)]
      exact hdue
    idle_ridx := fun hidle => absurd hbusy (by simpa using hidle) }

theorem inv_finishRounds {s : State} (hi : Inv s) (hdone : s.ridx = s.rnds) : Inv (finishRounds s) :=
  { hi with
    idle_ridx := fun _ => hdone
    busy_iterated := nofun
    busy_rsp := nofun
    rsp_data := fun _ hr => Option.some.inj hr ▸ fun hne => absurd rfl hne }

theorem inv_permuteAtOnce {s : State} (hi : Inv s) (hidle : s.busy = false) (n : Fin 25) :
    Inv (permuteAtOnce n s) := by
  by_cases hn : n.val = 0
  · rw [permuteAtOnce_of_zero hn]
    exact inv_respond (inv_leaveCount hi n) hidle fun _ => rfl
  · rw [permuteAtOnce_of_ne_zero hn]
    exact inv_respond (inv_leaveCount (inv_putRounds hi _) n) hidle fun _ => rfl

/-! ## The invariant over every event -/

/-- Every event keeps the invariant. -/
theorem inv_of_event {s t : State} (hi : Inv s) (he : Event s t) : Inv t := by
  cases he with
  | reset _ => exact inv_of_cleared rfl rfl rfl rfl (by simpa using hi.received_data)
  | delivery _ hrsp _ => exact inv_deliver hi hrsp
  | waiting _ _ _ => exact hi
  | round _ _ hbusy _ hdue _ =>
    rw [roundStep]
    exact inv_nextRound (inv_putRounds hi _) (by rwa [putRounds_busy]) (by rwa [putRounds_ridx, putRounds_rnds])
  | completion _ _ _ _ hdone => exact inv_finishRounds hi hdone
  | nothing _ _ => exact hi
  | rejection hready _ _ =>
    obtain ⟨_, hidle, _⟩ := hready
    exact inv_respond (inv_offered hi _) hidle fun _ => rfl
  | load hready _ _ =>
    obtain ⟨_, hidle, _⟩ := hready
    exact inv_respond (inv_writeLane (inv_offered hi _) _ _) hidle fun _ => rfl
  | read hready _ _ =>
    obtain ⟨_, hidle, _⟩ := hready
    exact inv_respond (inv_offered hi _) hidle fun hne => absurd rfl hne
  | @start _ rest n hready _ _ himpl =>
    obtain ⟨_, _, hrsp⟩ := hready
    exact inv_startRounds (inv_offered hi rest) hrsp himpl n
  | @atOnce _ rest n hready _ _ _ =>
    obtain ⟨_, hidle, _⟩ := hready
    exact inv_permuteAtOnce (inv_offered hi rest) hidle n

/-- Settles O49: a step that answers is one of the events, and each keeps the invariant. -/
theorem stepKeepsTheInvariant : Obligations.StepKeepsTheInvariant := by
  unfold Obligations.StepKeepsTheInvariant
  intro s t hi h
  exact inv_of_event hi (event_of_step h)

/-! ## The state after reset -/

/-- Settles O47: the fields of R20 as the reset state has them, and no ghost bit set. -/
theorem resetState : Obligations.ResetState := by
  unfold Obligations.ResetState
  refine ⟨rfl, rfl, rfl, rfl, rfl, fun i => ?_⟩
  simp [State.reset]

/-- Settles O48: the control after reset is R20's, and the host has received nothing. -/
theorem resetKeepsTheInvariant : Obligations.ResetKeepsTheInvariant := by
  unfold Obligations.ResetKeepsTheInvariant
  obtain ⟨hbusy, hridx, hrnds, hrsp, _, _⟩ := resetState
  exact inv_of_cleared hridx hrnds hbusy hrsp nofun

end Sys2Proof
end

section
/-! PROOFS. What changes a lane or its ghost bit (10_state.md R11, R21; log entry 2), event by event. -/

namespace Sys2Proof

open Machine

/-! ## Lanes and ghost bits after the operations that write them -/

/-- S[j] after S[i] <- v (10_state.md R10: the lanes do not overlap). -/
theorem writeLane_lanes_getElem (s : State) (i j : Fin 25) (v : Word) :
    (writeLane i v s).lanes[j] = if j = i then v else s.lanes[j] := by
  simp [Vector.getElem_set, Fin.ext_iff, eq_comm]

/-- LDLANE makes its lane specified and leaves the others as they were (R21). -/
theorem writeLane_written_getElem (s : State) (i j : Fin 25) (v : Word) :
    (writeLane i v s).written[j] = if j = i then true else s.written[j] := by
  simp [Vector.getElem_set, Fin.ext_iff, eq_comm]

@[simp] theorem roundStep_written (r : Fin 24) (s : State) :
    (roundStep r s).written = writtenAfterRounds s.written := by
  rw [roundStep, nextRound_written, putRounds_written]

/-- Rounds make no lane specified that was not (R21). -/
theorem written_of_permuteAtOnce {n j : Fin 25} {s : State} (hw : (permuteAtOnce n s).written[j] = true) :
    s.written[j] = true := by
  by_cases hn : n.val = 0
  · rwa [permuteAtOnce_of_zero hn] at hw
  · rw [permuteAtOnce_of_ne_zero hn] at hw
    exact written_of_writtenAfterRounds j hw

/-- UNROLLED PERMUTE 0 changes no lane (44_round_and_permute.md R81). -/
theorem permuteAtOnce_lanes_of_zero {n : Fin 25} (hn : n.val = 0) (s : State) :
    (permuteAtOnce n s).lanes = s.lanes := by rw [permuteAtOnce_of_zero hn, respond_lanes, leaveCount_lanes]

/-! ## What changes a lane -/

/-- Settles O54: of the events, only the four it names write a lane, LDLANE only its own and PERMUTE 0 none. -/
theorem lanesChangeOnlyBy : Obligations.LanesChangeOnlyBy := by
  unfold Obligations.LanesChangeOnlyBy
  intro s t j h hne
  cases event_of_step h with
  | reset hrst => exact .inl hrst
  | round _ hrsp hbusy _ hdue _ => exact .inr (.inl ⟨hbusy, hrsp, hdue⟩)
  | @load c rest i value hready hport hdec =>
    rw [respond_lanes, writeLane_lanes_getElem] at hne
    obtain rfl : j = i := by
      by_contra hji
      exact hne (if_neg hji)
    refine .inr (.inr ⟨c, rest, hready, hport, .inl ⟨value, hdec, ?_⟩⟩)
    rw [respond_lanes, writeLane_lanes_getElem, if_pos rfl]
  | @atOnce c rest n hready hport hdec himpl =>
    have hn : n.val ≠ 0 := fun hn => hne (by rw [permuteAtOnce_lanes_of_zero hn])
    exact .inr (.inr ⟨c, rest, hready, hport, .inr ⟨n.val, hdec, by omega, by omega, himpl⟩⟩)
  | delivery | waiting | completion | nothing | rejection | read | start => exact absurd rfl hne

/-! ## What makes a lane specified -/

/-- A lane specified after an event was so before, or the event is an LDLANE to it (R21). -/
theorem written_of_event {s t : State} {j : Fin 25} (he : Event s t) (hw : t.written[j] = true) :
    s.written[j] = true ∨
      ∃ c rest value, Ready s ∧ s.offered = c :: rest ∧ decode c = .ok (.ldlane j.val value) := by
  cases he with
  | reset _ => simp at hw
  | round _ _ _ _ _ _ =>
    rw [roundStep_written] at hw
    exact .inl (written_of_writtenAfterRounds j hw)
  | @load c rest i value hready hport hdec =>
    by_cases hji : j = i
    · exact .inr ⟨c, rest, value, hready, hport, hji ▸ hdec⟩
    · rw [respond_written, writeLane_written_getElem, if_neg hji] at hw
      exact .inl hw
  | atOnce _ _ _ _ =>
    have hold := written_of_permuteAtOnce hw
    exact .inl hold
  | delivery | waiting | completion | nothing | rejection | read | start => exact .inl hw

/-- What a busy engine with a round due does is the round step (44_round_and_permute.md R82). -/
theorem eq_roundStep_of_due {s t : State} (hrst : s.rst = false) (hrsp : s.rsp = none) (hbusy : s.busy = true)
    (hdue : s.ridx < s.rnds) (h : step s = .next t) : ∃ r, t = roundStep r s := by
  rw [step_of_busy hrst hrsp hbusy] at h
  obtain ⟨_, he⟩ | ⟨_, hdone, _⟩ | ⟨_, _, r, _, he⟩ | ⟨_, _, _, he⟩ | ⟨_, _, hnot, _⟩ := sequencerStep_cases s
  · exact (fault_ne_next (he.symm.trans h)).elim
  · exact absurd hdone (BitVec.ne_of_lt hdue)
  · exact ⟨r, next_inj (he.symm.trans h)⟩
  · exact (fault_ne_next (he.symm.trans h)).elim
  · exact absurd hdue hnot

/-- Settles O55: the first clause is every event's, the second the round step's. -/
theorem specifiedOnlyByLdlane : Obligations.SpecifiedOnlyByLdlane := by
  unfold Obligations.SpecifiedOnlyByLdlane
  intro s t j h
  refine ⟨written_of_event (event_of_step h), fun hrst hrsp hbusy hdue hsome => ?_⟩
  obtain ⟨r, rfl⟩ := eq_roundStep_of_due hrst hrsp hbusy hdue h
  calc (roundStep r s).written[j]
      = (writtenAfterRounds s.written)[j] := by rw [roundStep_written]
    _ = s.allWritten := writtenAfterRounds_getElem _ _ _
    _ = false := hsome

end Sys2Proof
end

section
/-! PROOFS. Lanes not written since reset are not seen (10_state.md R21; 70_reset_and_hazards.md R110; log entry 2): two
engines that agree on the written lanes take the same events to two that do. -/

namespace Sys2Proof

open Machine

/-- Agreement, with the other engine written as `s` with other lanes. -/
theorem agreeOnWritten_iff {s u : State} :
    AgreeOnWritten s u ↔
      ∃ L : Lanes, u = { s with lanes := L } ∧ ∀ i : Fin 25, s.written[i] = true → s.lanes[i] = L[i] := by
  constructor
  · rintro ⟨hu, hagree⟩
    exact ⟨u.lanes, hu, hagree⟩
  · rintro ⟨L, rfl, hagree⟩
    exact ⟨rfl, hagree⟩

theorem rsp_eq_of_agreeOnWritten {s u : State} (h : AgreeOnWritten s u) : u.rsp = s.rsp := by
  obtain ⟨_, rfl, _⟩ := agreeOnWritten_iff.mp h
  rfl

theorem received_eq_of_agreeOnWritten {s u : State} (h : AgreeOnWritten s u) : u.received = s.received := by
  obtain ⟨_, rfl, _⟩ := agreeOnWritten_iff.mp h
  rfl

theorem params_eq_of_agreeOnWritten {s u : State} (h : AgreeOnWritten s u) : u.params = s.params := by
  obtain ⟨_, rfl, _⟩ := agreeOnWritten_iff.mp h
  rfl

/-! ## The operations keep the agreement -/

theorem agreeOnWritten_respond {s u : State} (h : AgreeOnWritten s u) (code : RspCode) (data : Word) :
    AgreeOnWritten (respond code data s) (respond code data u) := by
  obtain ⟨_, rfl, hagree⟩ := agreeOnWritten_iff.mp h
  exact ⟨rfl, hagree⟩

theorem agreeOnWritten_leaveCount {s u : State} (h : AgreeOnWritten s u) (n : Fin 25) :
    AgreeOnWritten (leaveCount n s) (leaveCount n u) := by
  obtain ⟨_, rfl, hagree⟩ := agreeOnWritten_iff.mp h
  exact ⟨rfl, hagree⟩

theorem agreeOnWritten_nextRound {s u : State} (h : AgreeOnWritten s u) :
    AgreeOnWritten (nextRound s) (nextRound u) := by
  obtain ⟨_, rfl, hagree⟩ := agreeOnWritten_iff.mp h
  exact ⟨rfl, hagree⟩

/-- LDLANE writes the same value in both. -/
theorem agreeOnWritten_writeLane {s u : State} (h : AgreeOnWritten s u) (i : Fin 25) (value : Word) :
    AgreeOnWritten (writeLane i value s) (writeLane i value u) := by
  obtain ⟨_, rfl, hagree⟩ := agreeOnWritten_iff.mp h
  refine ⟨rfl, fun j hw => ?_⟩
  rw [writeLane_written_getElem] at hw
  rw [writeLane_lanes_getElem, writeLane_lanes_getElem]
  split_ifs at hw ⊢ with hji
  · rfl
  · exact hagree j hw

/-- Engines that agree on the written lanes have the same lanes when all are written (R21). -/
theorem lanes_eq_of_allSet {s u : State} (h : AgreeOnWritten s u) (hall : allSet s.written = true) :
    s.lanes = u.lanes := by
  obtain ⟨_, hagree⟩ := h
  exact lanes_ext fun i => hagree i ((allSet_iff _).mp hall i)

/-- Rounds compute the same function of the lanes in both; they leave a lane specified only if the lanes were equal
before (R21), and so after. -/
theorem agreeOnWritten_putRounds {s u : State} (h : AgreeOnWritten s u) (f : Lanes → Lanes) :
    AgreeOnWritten (putRounds (f s.lanes) s) (putRounds (f u.lanes) u) := by
  have hlanes := lanes_eq_of_allSet h
  obtain ⟨_, rfl, _⟩ := agreeOnWritten_iff.mp h
  refine ⟨rfl, fun i hw => ?_⟩
  rw [putRounds_written, Fin.getElem_fin, writtenAfterRounds_getElem] at hw
  rw [putRounds_lanes, putRounds_lanes, hlanes hw]

theorem agreeOnWritten_roundStep {s u : State} (h : AgreeOnWritten s u) (r : Fin 24) :
    AgreeOnWritten (roundStep r s) (roundStep r u) := by
  rw [roundStep, roundStep, params_eq_of_agreeOnWritten h]
  exact agreeOnWritten_nextRound (agreeOnWritten_putRounds h (runRound tables s.params.variant r))

theorem agreeOnWritten_permuteAtOnce {s u : State} (h : AgreeOnWritten s u) (n : Fin 25) :
    AgreeOnWritten (permuteAtOnce n s) (permuteAtOnce n u) := by
  by_cases hn : n.val = 0
  · rw [permuteAtOnce_of_zero hn, permuteAtOnce_of_zero hn]
    exact agreeOnWritten_respond (agreeOnWritten_leaveCount h n) _ _
  · rw [permuteAtOnce_of_ne_zero hn, permuteAtOnce_of_ne_zero hn, params_eq_of_agreeOnWritten h]
    have hrounds := agreeOnWritten_putRounds h (runRounds tables s.params.variant n.val (Nat.le_of_lt_succ n.isLt))
    exact agreeOnWritten_respond (agreeOnWritten_leaveCount hrounds n) _ _

/-! ## Every event keeps the agreement -/

/-- The host's duty on a legal RDLANE is that the lane has been written (R110). -/
theorem usesOnlyWritten_rdlane (s : State) (i : Fin 25) : usesOnlyWritten s (.rdlane i.val) = s.written[i] := by
  simp [usesOnlyWritten, laneIndex?_of_lt]

/-- The other engine takes the same event, and the two go on agreeing; only RDLANE puts a lane where it is seen. -/
theorem exists_event_agreeOnWritten {s u t : State} (h : AgreeOnWritten s u) (he : Event s t)
    (hduty : ∀ c rest idx, Ready s → s.offered = c :: rest → decode c = .ok (.rdlane idx) →
      usesOnlyWritten s (.rdlane idx) = true) :
    ∃ w, Event u w ∧ AgreeOnWritten t w := by
  obtain ⟨L, rfl, hagree⟩ := agreeOnWritten_iff.mp h
  have hoffered (cs : List Command) : AgreeOnWritten { s with offered := cs } { s with offered := cs, lanes := L } :=
    ⟨rfl, hagree⟩
  cases he with
  | reset hrst => exact ⟨_, .reset hrst, rfl, fun _ _ => rfl⟩
  | delivery hrst hrsp htake => exact ⟨_, .delivery hrst hrsp htake, rfl, hagree⟩
  | waiting hrst hrsp hwait => exact ⟨_, .waiting hrst hrsp hwait, h⟩
  | round hrst hrsp hbusy himpl hdue hr =>
    exact ⟨_, .round hrst hrsp hbusy himpl hdue hr, agreeOnWritten_roundStep h _⟩
  | completion hrst hrsp hbusy himpl hdone => exact ⟨_, .completion hrst hrsp hbusy himpl hdone, rfl, hagree⟩
  | nothing hready hport => exact ⟨_, .nothing hready hport, h⟩
  | rejection hready hport herr => exact ⟨_, .rejection hready hport herr, rfl, hagree⟩
  | load hready hport hdec =>
    exact ⟨_, .load hready hport hdec, agreeOnWritten_respond (agreeOnWritten_writeLane (hoffered _) _ _) _ _⟩
  | @read c rest i hready hport hdec =>
    have hwritten : s.written[i] = true := usesOnlyWritten_rdlane s i ▸ hduty c rest i.val hready hport hdec
    have hvalue : readLane i s = readLane i { s with lanes := L } := hagree i hwritten
    rw [hvalue]
    exact ⟨_, .read hready hport hdec, agreeOnWritten_respond (hoffered _) _ _⟩
  | start hready hport hdec himpl => exact ⟨_, .start hready hport hdec himpl, rfl, hagree⟩
  | atOnce hready hport hdec himpl =>
    exact ⟨_, .atOnce hready hport hdec himpl, agreeOnWritten_permuteAtOnce (hoffered _) _⟩

/-- Settles O57: the other engine takes the same event, and states that agree hold the same responses. -/
theorem unwrittenLanesNeverLeak : Obligations.UnwrittenLanesNeverLeak := by
  unfold Obligations.UnwrittenLanesNeverLeak
  intro s u t hsu h hduty
  obtain ⟨w, hw, htw⟩ := exists_event_agreeOnWritten hsu (event_of_step h) hduty
  exact ⟨w, step_of_event hw, htw, rsp_eq_of_agreeOnWritten htw, received_eq_of_agreeOnWritten htw⟩

end Sys2Proof
end

section
/-! PROOFS. The memory rules: the properties of ROTC and PILN (20_memory.md R30), and the lane commands as idempotent
accesses (R33). -/

namespace Sys2Proof.Machine

/-! ## The tables -/

theorem rotc_le : ∀ i : Fin 24, tables.rotc[i] ≤ 62 := by decide

theorem rotc_injective : ∀ i j : Fin 24, tables.rotc[i] = tables.rotc[j] → i = j := by decide

theorem piln_ne_zero : ∀ i : Fin 24, tables.piln[i] ≠ 0 := by decide

theorem piln_injective : ∀ i j : Fin 24, tables.piln[i] = tables.piln[j] → i = j := by decide

/-- 24 distinct destinations among the 24 lanes other than lane 0 are all of them. -/
theorem exists_piln_eq {l : Fin 25} (hl : l ≠ 0) : ∃ i : Fin 24, tables.piln[i] = l := by
  have hall : Finset.univ.image (fun i : Fin 24 => tables.piln[i]) = Finset.univ.erase 0 := by
    refine Finset.eq_of_subset_of_card_le (Finset.image_subset_iff.mpr fun i _ => ?_) ?_
    · exact Finset.mem_erase.mpr ⟨piln_ne_zero i, Finset.mem_univ _⟩
    · rw [Finset.card_image_of_injective _ piln_injective, Finset.card_erase_of_mem (Finset.mem_univ _)]
      simp
  obtain ⟨i, _, hi⟩ := Finset.mem_image.mp (hall ▸ Finset.mem_erase.mpr ⟨hl, Finset.mem_univ l⟩)
  exact ⟨i, hi⟩

/-- Settles O12: the entries are read off the tables, and that PILN lists every lane but 0 follows by counting. -/
theorem tableProperties : Obligations.TableProperties := by
  unfold Obligations.TableProperties
  refine ⟨fun i => ⟨(rotc_bounds i).1, rotc_le i⟩, rotc_injective, fun i => ?_, piln_injective,
    fun l hl => exists_piln_eq hl, rfl⟩
  have hne : (tables.piln[i]).val ≠ 0 := Fin.val_ne_of_ne (piln_ne_zero i)
  omega

/-! ## LDLANE and RDLANE -/

/-- A legal LDLANE (45_host_commands.md R89). -/
theorem exec_ldlane (i : Fin 25) (value : Word) (s : State) :
    exec (.ldlane i.val value) s = .next (respond .ok 0 (writeLane i value s)) := by
  simp [exec, execLdlane, laneIndex?_of_lt]

/-- A legal RDLANE (45_host_commands.md R90). -/
theorem exec_rdlane (i : Fin 25) (s : State) :
    exec (.rdlane i.val) s = .next (respond .ok (readLane i s) s) := by
  simp [exec, execRdlane, laneIndex?_of_lt]

/-- Writing a specified lane with the value it holds changes nothing. -/
theorem writeLane_eq_self {i : Fin 25} {v : Word} {s : State} (hlane : s.lanes[i] = v)
    (hwritten : s.written[i] = true) : writeLane i v s = s := by
  have hlanes : s.lanes.set i v = s.lanes := hlane ▸ Vector.set_getElem_self _
  have hghost : s.written.set i true = s.written := hwritten ▸ Vector.set_getElem_self _
  rw [writeLane, hlanes, hghost]

/-- An LDLANE or RDLANE leaves lanes and ghost bits on which it does nothing but answer as it did (20_memory.md R33); a
rejected one leaves those it found. -/
theorem exec_idempotent_of_ne_permute {i : Instr} (hi : ∀ n, i ≠ .permute n) (s : State) :
    ∃ lanes written r, exec i s = .next { s with lanes := lanes, written := written, rsp := some r } ∧
      ∀ u : State, u.lanes = lanes → u.written = written → exec i u = .next { u with rsp := some r } := by
  cases herr : rangeError i with
  | some code =>
    exact ⟨s.lanes, s.written, ⟨code, 0⟩, exec_of_rangeError herr s, fun u _ _ => exec_of_rangeError herr u⟩
  | none =>
    cases i with
    | ldlane idx value =>
      lift idx to Fin 25 using by simpa [rangeError, Nat.lt_succ_iff] using herr
      refine ⟨s.lanes.set idx value, s.written.set idx true, ⟨.ok, 0⟩, exec_ldlane idx value s,
        fun u hlanes hwritten => ?_⟩
      have hsame : writeLane idx value u = u := writeLane_eq_self (by simp [hlanes]) (by simp [hwritten])
      rw [exec_ldlane, hsame, respond]
    | rdlane idx =>
      lift idx to Fin 25 using by simpa [rangeError, Nat.lt_succ_iff] using herr
      refine ⟨s.lanes, s.written, ⟨.ok, readLane idx s⟩, exec_rdlane idx s, fun u hlanes _ => ?_⟩
      rw [exec_rdlane, respond, readLane, readLane, hlanes]
    | permute n => exact absurd rfl (hi n)

/-- A ready engine runs the legal word on its port (R88). -/
theorem step_of_decode_ok {s : State} {c : Command} {rest : List Command} {i : Instr} (hready : Ready s)
    (hport : s.offered = c :: rest) (hdec : decode c = .ok i) : step s = exec i { s with offered := rest } := by
  simp [step_of_ready hready hport, acceptCommand, hdec]

/-- A command answered at once is over in two steps, the second its delivery to a host that takes it (R88). -/
theorem run_two_of_answered {s t : State} {r : Response} (h : step s = .next t) (hrst : t.rst = false)
    (hrsp : t.rsp = some r) (htake : t.rspReady = true) : run 2 s = .next (deliver r t) := by
  rw [run_succ 1 h, run_one]
  exact step_of_event (.delivery hrst hrsp htake)

/-- Settles O26: acceptance, delivery, and acceptance on the lanes and ghost bits the first command left. -/
theorem laneCommandsAreIdempotent : Obligations.LaneCommandsAreIdempotent := by
  unfold Obligations.LaneCommandsAreIdempotent
  intro s c rest i hready htake hport hdec hi
  obtain ⟨lanes, written, r, hfirst, hagain⟩ := exec_idempotent_of_ne_permute hi { s with offered := c :: rest }
  rw [← step_of_decode_ok hready hport hdec] at hfirst
  obtain ⟨hrst, hbusy, _⟩ := hready
  refine ⟨_, r, (run_one s).trans hfirst, rfl, ?_⟩
  have hdelivered := run_two_of_answered hfirst hrst rfl htake
  rw [run_add 1 hdelivered, run_one]
  refine (step_of_decode_ok ?_ rfl hdec).trans (hagain _ rfl rfl)
  exact ⟨hrst, hbusy, rfl⟩

end Sys2Proof.Machine
end

section
/-! PROOFS. The decoder and the encoder (30_encoding.md R41, R43, R44, R47): each in its fields, and each undoes the
other; CD is read for LDLANE alone. -/

namespace Sys2Proof

open Machine

/-! ## The decoder by its fields -/

theorem decode_ldlane {c : Command} (hrsv : c.rsv = 0#4) (hop : c.op = 1#4) :
    decode c = .ok (.ldlane c.arg.toNat c.data) := by simp [decode, hrsv, hop]

theorem decode_rdlane {c : Command} (hrsv : c.rsv = 0#4) (hop : c.op = 2#4) :
    decode c = .ok (.rdlane c.arg.toNat) := by simp [decode, hrsv, hop]

theorem decode_permute {c : Command} (hrsv : c.rsv = 0#4) (hop : c.op = 3#4) :
    decode c = .ok (.permute c.arg.toNat) := by simp [decode, hrsv, hop]

/-- What a command that decodes says of its pair's fields. -/
theorem fields_of_decode {c : Command} {i : Instr} (h : decode c = .ok i) :
    c.rsv = 0#4 ∧ c.op = i.opcode ∧ i.operand = c.arg.toNat ∧ i.dataWord = if c.op = 1#4 then c.data else 0#64 := by
  obtain ⟨hrsv, hop, hd⟩ | ⟨hrsv, hop, hd⟩ | ⟨hrsv, hop, hd⟩ | ⟨_, _, hd⟩ := decode_cases c
  on_goal 4 => exact nomatch hd.symm.trans h
  all_goals
    obtain rfl := Except.ok.inj (hd.symm.trans h)
    exact ⟨hrsv, hop, rfl, by simp [Instr.dataWord, hop]⟩

/-! ## Decoding an encoding, encoding what was decoded -/

/-- Settles O1: the encoding's fields are the command's row, and the operand survives the 8-bit field. -/
theorem decodeOfEncode : Obligations.DecodeOfEncode := by
  unfold Obligations.DecodeOfEncode
  intro i h
  have harg := arg_encode_toNat h
  cases i with
  | ldlane idx value =>
    rw [decode_ldlane (rsv_encode _) (op_encode _), harg, data_encode, Instr.operand, Instr.dataWord]
  | rdlane idx => rw [decode_rdlane (rsv_encode _) (op_encode _), harg, Instr.operand]
  | permute n => rw [decode_permute (rsv_encode _) (op_encode _), harg, Instr.operand]

/-- Settles O2: the pair's fields are those of the command's encoding, and they make up CW. -/
theorem encodeOfDecode : Obligations.EncodeOfDecode := by
  unfold Obligations.EncodeOfDecode
  intro c i h
  obtain ⟨hrsv, hop, harg, hdata⟩ := fields_of_decode h
  have hword : (encode i).word = c.word := by
    rw [word_eq_fields c, hrsv, hop, encode, harg, BitVec.ofNat_toNat, BitVec.setWidth_eq]
  have hfit : i.operand ≤ 255 := harg ▸ Nat.le_of_lt_succ c.arg.isLt
  exact ⟨(wellFormed_iff i).mpr hfit, hword, fun h1 => hdata.trans (if_pos h1), fun h1 => hdata.trans (if_neg h1)⟩

/-! ## CW as match and mask, and as a number -/

/-- The mask keeps `op` and `rsv` (R44). -/
theorem word_and_mask (c : Command) : c.word &&& 0xFF00 = c.op ++ c.rsv ++ 0#8 := by
  have hmask : (0xFF00 : BitVec 16) = BitVec.allOnes 4 ++ BitVec.allOnes 4 ++ 0#8 := by decide
  rw [word_eq_fields c, hmask, BitVec.and_append, BitVec.and_append, BitVec.and_allOnes, BitVec.and_allOnes,
    BitVec.and_zero]

/-- A row's match: its opcode and no reserved bit (R44). -/
theorem word_and_mask_eq_iff (c : Command) (op : BitVec 4) :
    c.word &&& 0xFF00 = op ++ 0#4 ++ 0#8 ↔ c.rsv = 0#4 ∧ c.op = op := by
  rw [word_and_mask]
  constructor
  · intro h
    have hop := congrArg (BitVec.extractLsb' 12 4) h
    have hrsv := congrArg (BitVec.extractLsb' 8 4) h
    rw [extract_op, extract_op] at hop
    rw [extract_rsv, extract_rsv] at hrsv
    exact ⟨hrsv, hop⟩
  · rintro ⟨hrsv, hop⟩
    rw [hrsv, hop]

/-- `arg` is the low 8 bits of CW as an unsigned integer (R43). -/
theorem arg_toNat (c : Command) : c.arg.toNat = c.word.toNat % 256 := by
  simp [Command.arg]

/-- Settles O3: each row's match is its opcode with `rsv` = 0, which is how the decoder tells the rows apart. -/
theorem decodeIsMatchAndMask : Obligations.DecodeIsMatchAndMask := by
  unfold Obligations.DecodeIsMatchAndMask
  intro c
  have hload := word_and_mask_eq_iff c 1#4
  have hread := word_and_mask_eq_iff c 2#4
  have hpermute := word_and_mask_eq_iff c 3#4
  rw [← arg_toNat]
  refine ⟨fun h => ?_, fun h => ?_, fun h => ?_, fun h1 h2 h3 => ?_⟩
  · obtain ⟨hrsv, hop⟩ := hload.mp h
    exact decode_ldlane hrsv hop
  · obtain ⟨hrsv, hop⟩ := hread.mp h
    exact decode_rdlane hrsv hop
  · obtain ⟨hrsv, hop⟩ := hpermute.mp h
    exact decode_permute hrsv hop
  · obtain ⟨hrsv, hop, _⟩ | ⟨hrsv, hop, _⟩ | ⟨hrsv, hop, _⟩ | ⟨_, herr⟩ := decode_cases c
    · exact absurd (hload.mpr ⟨hrsv, hop⟩) h1
    · exact absurd (hread.mpr ⟨hrsv, hop⟩) h2
    · exact absurd (hpermute.mpr ⟨hrsv, hop⟩) h3
    · exact herr

/-- CW of a well-formed command is (op << 12) | arg (R47). -/
theorem word_encode_toNat {i : Instr} (h : i.operand ≤ 255) :
    (encode i).word.toNat = i.opcode.toNat * 2 ^ 12 ||| i.operand := by
  have hop : (i.opcode ++ 0#4 ++ 0#8).toNat = i.opcode.toNat * 2 ^ 12 := by
    simp only [BitVec.toNat_append, BitVec.toNat_ofNat, Nat.zero_mod, Nat.or_zero, Nat.shiftLeft_eq]
    omega
  rw [encode, ← or_arg _ h, BitVec.toNat_or, hop, BitVec.toNat_ofNat, Nat.mod_eq_of_lt (by omega)]

/-- Settles O4: one equation for the three rows, read at each opcode. -/
theorem encodedWordIsOpcodeAndArgument : Obligations.EncodedWordIsOpcodeAndArgument := by
  unfold Obligations.EncodedWordIsOpcodeAndArgument
  intro n hn
  exact ⟨fun value => ⟨word_encode_toNat (i := .ldlane n value) hn, data_encode _⟩,
    ⟨word_encode_toNat (i := .rdlane n) hn, data_encode _⟩,
    ⟨word_encode_toNat (i := .permute n) hn, data_encode _⟩, rsv_encode _, rsv_encode _, rsv_encode _⟩

/-! ## CD -/

/-- CD does not enter the decoding of a word whose `op` is not LDLANE's (R41). -/
theorem decode_data_irrel {w : BitVec 16} (hop : w.extractLsb' 12 4 ≠ 1#4) (d d' : Word) :
    decode ⟨w, d⟩ = decode ⟨w, d'⟩ := by
  have h : (Command.mk w d).op ≠ 1#4 := hop
  have h' : (Command.mk w d').op ≠ 1#4 := hop
  rw [decode, decode, if_neg h, if_neg h']
  rfl

/-- Settles O5: the acceptance sees CD through the decoder alone. -/
theorem unusedDataWordIsIgnored : Obligations.UnusedDataWordIsIgnored := by
  unfold Obligations.UnusedDataWordIsIgnored
  intro s w d d' rest hready hop
  have hd : Ready { s with offered := ⟨w, d⟩ :: rest } := hready
  have hd' : Ready { s with offered := ⟨w, d'⟩ :: rest } := hready
  rw [step_of_ready hd rfl, step_of_ready hd' rfl, acceptCommand, acceptCommand, decode_data_irrel hop d d']

end Sys2Proof
end

section
/-! PROOFS. PERMUTE in both organisations (44_round_and_permute.md R79 to R83): the micro-steps of the ITERATED engine
leave, response and all, the state the UNROLLED one leaves in its one step. -/

namespace Sys2Proof.Machine

/-! ## The rounds of a PERMUTE, in either organisation -/

/-- ROUND(0) to ROUND(k - 1) on the lanes and their ghost bits (R79, R81; log entry 2). -/
def withRounds (k : Nat) (hk : k ≤ 24) (s : State) : State :=
  { s with
    lanes := runRounds tables s.params.variant k hk s.lanes,
    written := if k = 0 then s.written else writtenAfterRounds s.written }

/-- The state of an engine that was ready once its PERMUTE is answered (R82, R83). -/
def permuted (n : Fin 25) (s : State) : State :=
  respond .ok 0 (leaveCount n (withRounds n.val (Nat.le_of_lt_succ n.isLt) s))

/-- One round more. -/
theorem withRounds_succ (k : Nat) (hk : k + 1 ≤ 24) (s : State) :
    withRounds (k + 1) hk s = putRounds (runRound tables s.params.variant ⟨k, hk⟩
      (withRounds k (Nat.le_of_succ_le hk) s).lanes) (withRounds k (Nat.le_of_succ_le hk) s) := by
  have hwritten : writtenAfterRounds s.written =
      writtenAfterRounds (if k = 0 then s.written else writtenAfterRounds s.written) := by
    by_cases h0 : k = 0
    · rw [if_pos h0]
    · rw [if_neg h0, writtenAfterRounds_idem]
  rw [withRounds, if_neg (Nat.succ_ne_zero k), hwritten]
  rfl

/-- UNROLLED: the whole PERMUTE is one step (R83). -/
theorem permuteAtOnce_eq_permuted (n : Fin 25) (s : State) : permuteAtOnce n s = permuted n s := by
  by_cases hn : n.val = 0
  · obtain rfl : n = 0 := Fin.ext hn
    rw [permuteAtOnce_of_zero hn]
    rfl
  · rw [permuteAtOnce_of_ne_zero hn, permuted, withRounds, if_neg hn]
    rfl

/-! ## The ITERATED engine's micro-steps -/

/-- After the acceptance of PERMUTE n and k of its rounds: BUSY = 1, RIDX = k, RNDS = n (R82). -/
def inRounds (n : Fin 25) (k : Nat) (hk : k ≤ 24) (s : State) : State :=
  { withRounds k hk (startRounds n s) with ridx := BitVec.ofNat 5 k }

/-- A round that is due is the next step (R82). -/
theorem step_inRounds {s : State} {n : Fin 25} {k : Nat} (hrst : s.rst = false) (hrsp : s.rsp = none)
    (himpl : s.params.impl = .iterated) (hk : k < n.val) :
    step (inRounds n k (by omega) s) = .next (inRounds n (k + 1) (by omega) s) := by
  have hridx : (BitVec.ofNat 5 k).toNat = k := roundCount_toNat ⟨k, by omega⟩
  have hdue : BitVec.ofNat 5 k < BitVec.ofNat 5 n.val := by
    rw [BitVec.lt_def, hridx, roundCount_toNat]
    exact hk
  have hstep : step (inRounds n k (by omega) s) =
      .next (roundStep ⟨k, by omega⟩ (inRounds n k (by omega) s)) :=
    step_of_event (.round hrst hrsp rfl himpl hdue hridx.symm)
  have hnext : BitVec.ofNat 5 k + 1 = BitVec.ofNat 5 (k + 1) := (BitVec.ofNat_add k 1).symm
  rw [hstep, inRounds, inRounds, withRounds_succ, roundStep, nextRound, ← hnext]
  rfl

/-- The first k rounds take k steps (R82). -/
theorem run_startRounds {s : State} {n : Fin 25} (hrst : s.rst = false) (hrsp : s.rsp = none)
    (himpl : s.params.impl = .iterated) {k : Nat} (hk : k ≤ n.val) :
    run k (startRounds n s) = .next (inRounds n k (by omega) s) := by
  induction k with
  | zero => exact run_zero _
  | succ k ih => rw [run_add 1 (ih (by omega)), run_one, step_inRounds hrst hrsp himpl hk]

/-- n rounds and the completion step (R82). -/
theorem run_startRounds_completion {s : State} {n : Fin 25} (hready : Ready s) (himpl : s.params.impl = .iterated) :
    run (n.val + 1) (startRounds n s) = .next (permuted n s) := by
  obtain ⟨hrst, hbusy, hrsp⟩ := hready
  have hdone : step (inRounds n n.val (by omega) s) = .next (finishRounds (inRounds n n.val (by omega) s)) :=
    step_of_event (.completion hrst hrsp rfl himpl rfl)
  rw [run_add 1 (run_startRounds hrst hrsp himpl le_rfl), run_one, hdone,
    permuted, leaveCount, withRounds, respond, finishRounds, respond, ← hbusy]
  rfl

/-- A legal PERMUTE on the port of a ready engine is answered, in the same state whatever IMPL is (R79, R83). -/
theorem run_permute {s : State} {c : Command} {rest : List Command} {n : Fin 25} (hready : Ready s)
    (hport : s.offered = c :: rest) (hdec : decode c = .ok (.permute n.val)) :
    ∃ k, run k s = .next (permuted n { s with offered := rest }) := by
  cases himpl : s.params.impl with
  | unrolled =>
    exact ⟨1, by rw [run_one, step_of_event (.atOnce hready hport hdec himpl), permuteAtOnce_eq_permuted]⟩
  | iterated =>
    have hready' : Ready { s with offered := rest } := hready
    refine ⟨n.val + 1 + 1, ?_⟩
    rw [run_succ _ (step_of_event (.start hready hport hdec himpl)), run_startRounds_completion hready' himpl]

end Sys2Proof.Machine
end

section
/-! PROOFS. The response port (30_encoding.md R42, R49, R50): a waiting response is delivered or waits, and every
accepted command is answered once. -/

namespace Sys2Proof

open Machine

/-- Settles O42: delivery and waiting are the two events of an engine whose response waits. -/
theorem responseIsDelivered : Obligations.ResponseIsDelivered := by
  unfold Obligations.ResponseIsDelivered
  intro s r hrst hrsp
  exact ⟨fun htake => step_of_event (.delivery hrst hrsp htake), fun hwait => step_of_event (.waiting hrst hrsp hwait)⟩

/-! ## What a round step leaves as it was -/

@[simp] theorem roundStep_busy (r : Fin 24) (s : State) : (roundStep r s).busy = s.busy := by simp [roundStep]

@[simp] theorem roundStep_offered (r : Fin 24) (s : State) : (roundStep r s).offered = s.offered := by
  simp [roundStep]

@[simp] theorem roundStep_received (r : Fin 24) (s : State) : (roundStep r s).received = s.received := by
  simp [roundStep]

/-! ## Commands in flight -/

/-- None in a ready engine. -/
theorem inFlight_of_ready {s : State} (h : Ready s) : inFlight s = 0 := by
  obtain ⟨_, hbusy, hrsp⟩ := h
  simp [inFlight, State.idle, hbusy, hrsp]

/-- One while a PERMUTE runs. -/
theorem inFlight_of_busy {s : State} (h : s.busy = true) : inFlight s = 1 := by
  simp [inFlight, State.idle, h]

/-- One while a response waits. -/
theorem inFlight_of_rsp {s : State} {r : Response} (h : s.rsp = some r) : inFlight s = 1 := by
  simp [inFlight, State.idle, h]

/-- An event that moves nothing. -/
theorem count_of_kept {s t : State} (hoffered : t.offered = s.offered) (hreceived : t.received = s.received)
    (hflight : inFlight t = inFlight s) :
    t.offered.length + t.received.length + inFlight t = s.offered.length + s.received.length + inFlight s := by
  rw [hoffered, hreceived, hflight]

/-- An acceptance moves one command from the port into the engine. -/
theorem count_of_acceptance {s t : State} {c : Command} {rest : List Command} (hready : Ready s)
    (hport : s.offered = c :: rest) (hoffered : t.offered = rest) (hreceived : t.received = s.received)
    (hflight : inFlight t = 1) :
    t.offered.length + t.received.length + inFlight t = s.offered.length + s.received.length + inFlight s := by
  rw [hport, hoffered, hreceived, hflight, inFlight_of_ready hready, List.length_cons]
  omega

/-- Settles O45: of the events, an acceptance moves a command from the port into the engine and a delivery from the
engine to the host; no other moves one. -/
theorem oneResponsePerCommand : Obligations.OneResponsePerCommand := by
  unfold Obligations.OneResponsePerCommand
  intro s t hinv hrst hstep
  cases event_of_step hstep with
  | reset h => simp [hrst] at h
  | @delivery r _ hrsp _ =>
    have hidle : s.busy = false := by
      by_contra hbusy
      simp [hinv.busy_rsp (by simpa using hbusy)] at hrsp
    refine ⟨?_, .inr ⟨r, hrsp, rfl, rfl⟩⟩
    have hready : Ready (deliver r s) := ⟨hrst, hidle, rfl⟩
    rw [inFlight_of_ready hready, inFlight_of_rsp hrsp, deliver_received, deliver_offered, List.length_append]
    rfl
  | waiting | nothing => exact ⟨rfl, .inl rfl⟩
  | @round r _ _ hbusy _ _ _ =>
    have hflight : inFlight (roundStep r s) = inFlight s := by
      rw [inFlight_of_busy ((roundStep_busy r s).trans hbusy), inFlight_of_busy hbusy]
    have hreceived := roundStep_received r s
    exact ⟨count_of_kept (roundStep_offered r s) hreceived hflight, .inl hreceived⟩
  | completion _ _ hbusy _ _ =>
    exact ⟨count_of_kept rfl rfl ((inFlight_of_rsp rfl).trans (inFlight_of_busy hbusy).symm), .inl rfl⟩
  | rejection hready hport _ => exact ⟨count_of_acceptance hready hport rfl rfl (inFlight_of_rsp rfl), .inl rfl⟩
  | load hready hport _ => exact ⟨count_of_acceptance hready hport rfl rfl (inFlight_of_rsp rfl), .inl rfl⟩
  | read hready hport _ => exact ⟨count_of_acceptance hready hport rfl rfl (inFlight_of_rsp rfl), .inl rfl⟩
  | start hready hport _ _ => exact ⟨count_of_acceptance hready hport rfl rfl (inFlight_of_busy rfl), .inl rfl⟩
  | atOnce hready hport _ _ =>
    rw [permuteAtOnce_eq_permuted]
    exact ⟨count_of_acceptance hready hport rfl rfl (inFlight_of_rsp rfl), .inl rfl⟩

end Sys2Proof
end

section
/-! PROOFS. Host programs of more than one command (30_encoding.md R48; 70_reset_and_hazards.md R110): loading lanes,
reading lanes, and the load, permute and read-back of a whole lane file, on the port of a ready engine. -/

namespace Sys2Proof

open Machine

/-! ## A response given and taken -/

/-- Only the list of responses received keeps the trace of a response that was given and taken (R101; log entry 8). -/
theorem deliver_respond {s : State} (hrsp : s.rsp = none) (code : RspCode) (data : Word) :
    deliver ⟨code, data⟩ (respond code data s) = { s with received := s.received ++ [⟨code, data⟩] } := by
  rw [deliver, ← hrsp]
  rfl

/-- A command answered at once and taken, in two steps. -/
theorem run_two_of_respond {s t : State} {code : RspCode} {data : Word} (hstep : step s = .next (respond code data t))
    (hready : Ready t) (htake : t.rspReady = true) :
    run 2 s = .next { t with received := t.received ++ [⟨code, data⟩] } := by
  obtain ⟨hrst, _, hrsp⟩ := hready
  rw [run_two_of_answered hstep hrst rfl htake, deliver_respond hrsp]

/-! ## Several lanes set one after another -/

/-- The entries at the named lanes replaced, in the order given. -/
def setAll {α : Type} (l : List (Fin 25 × α)) (A : Vector α 25) : Vector α 25 :=
  l.foldl (fun B p => B.set p.1 p.2) A

theorem setAll_cons {α : Type} (p : Fin 25 × α) (l : List (Fin 25 × α)) (A : Vector α 25) :
    setAll (p :: l) A = setAll l (A.set p.1 p.2) := rfl

theorem setAll_getElem_of_notMem {α : Type} {l : List (Fin 25 × α)} {j : Fin 25} (hj : j ∉ l.map Prod.fst)
    (A : Vector α 25) : (setAll l A)[j] = A[j] := by
  induction l generalizing A with
  | nil => rfl
  | cons p l ih =>
    rw [List.map_cons, List.mem_cons, not_or] at hj
    obtain ⟨hjp, hjl⟩ := hj
    rw [setAll_cons, ih hjl]
    exact Vector.getElem_set_ne _ _ fun h => hjp (Fin.ext h.symm)

theorem setAll_getElem_of_mem {α : Type} {l : List (Fin 25 × α)} (hnodup : (l.map Prod.fst).Nodup)
    {p : Fin 25 × α} (hp : p ∈ l) (A : Vector α 25) : (setAll l A)[p.1] = p.2 := by
  induction l generalizing A with
  | nil => simp at hp
  | cons q l ih =>
    rw [List.map_cons, List.nodup_cons] at hnodup
    obtain ⟨hql, hl⟩ := hnodup
    rcases List.mem_cons.mp hp with rfl | hp
    · rw [setAll_cons, setAll_getElem_of_notMem hql]
      exact Vector.getElem_set_self _
    · rw [setAll_cons, ih hl hp]

/-- Of distinct lanes, the order does not matter. -/
theorem setAll_perm {α : Type} {l m : List (Fin 25 × α)} (hperm : l.Perm m) (hnodup : (l.map Prod.fst).Nodup)
    (A : Vector α 25) : setAll l A = setAll m A := by
  have hnodup' : (m.map Prod.fst).Nodup := (hperm.map Prod.fst).nodup_iff.mp hnodup
  refine Vector.ext fun j hj => ?_
  by_cases hmem : (⟨j, hj⟩ : Fin 25) ∈ l.map Prod.fst
  · obtain ⟨p, hp, hpj⟩ := List.mem_map.mp hmem
    obtain rfl : p.1.val = j := congrArg Fin.val hpj
    exact (setAll_getElem_of_mem hnodup hp A).trans (setAll_getElem_of_mem hnodup' (hperm.mem_iff.mp hp) A).symm
  · have hmem' : (⟨j, hj⟩ : Fin 25) ∉ m.map Prod.fst := fun h => hmem ((hperm.map Prod.fst).mem_iff.mpr h)
    exact (setAll_getElem_of_notMem hmem A).trans (setAll_getElem_of_notMem hmem' A).symm

/-! ## Loading lanes -/

/-- LDLANE of each lane with its value, in the order given. -/
def loadsOf (l : List (Fin 25 × Word)) : List Instr := l.map fun p => .ldlane p.1.val p.2

/-- The ghost bits those lanes get (log entry 2). -/
def marksOf (l : List (Fin 25 × Word)) : List (Fin 25 × Bool) := l.map fun p => (p.1, true)

theorem map_fst_marksOf (l : List (Fin 25 × Word)) : (marksOf l).map Prod.fst = l.map Prod.fst := by
  simp [marksOf, Function.comp_def]

/-- The engine once the host has loaded the lanes and taken the responses (R89). -/
def loaded (l : List (Fin 25 × Word)) (s : State) : State :=
  { s with
    lanes := setAll l s.lanes, written := setAll (marksOf l) s.written,
    received := s.received ++ List.replicate l.length ⟨.ok, 0⟩ }

theorem loaded_cons (p : Fin 25 × Word) (l : List (Fin 25 × Word)) (s : State) :
    loaded (p :: l) s = loaded l (loaded [p] s) := by
  have hreceived : s.received ++ List.replicate (p :: l).length (⟨.ok, 0⟩ : Response) =
      s.received ++ [⟨.ok, 0⟩] ++ List.replicate l.length ⟨.ok, 0⟩ := by
    rw [List.append_assoc, List.length_cons, List.replicate_succ, List.singleton_append]
  rw [loaded, hreceived]
  rfl

/-- Of distinct lanes, the order does not matter (R110). -/
theorem loaded_perm {l m : List (Fin 25 × Word)} (hperm : l.Perm m) (hnodup : (l.map Prod.fst).Nodup) (s : State) :
    loaded l s = loaded m s := by
  have hmarks : (marksOf l).Perm (marksOf m) := hperm.map _
  rw [loaded, loaded, setAll_perm hperm hnodup, setAll_perm hmarks (map_fst_marksOf l ▸ hnodup), hperm.length_eq]

/-- Its operand fits `arg`. -/
theorem decode_encode_ldlane (i : Fin 25) (value : Word) :
    decode (encode (.ldlane i.val value)) = .ok (.ldlane i.val value) :=
  decodeOfEncode _ ((wellFormed_iff _).mpr (by rw [Instr.operand]; omega))

/-- One LDLANE, answered and delivered (R88, R89). -/
theorem run_load {s : State} (hready : Ready s) (htake : s.rspReady = true) {p : Fin 25 × Word} {rest : List Command}
    (hport : s.offered = encode (.ldlane p.1.val p.2) :: rest) :
    run 2 s = .next (loaded [p] { s with offered := rest }) :=
  run_two_of_respond (step_of_event (.load hready hport (decode_encode_ldlane p.1 p.2))) hready htake

/-- Loads take two steps each (R88, R89). -/
theorem run_loads {s : State} (hready : Ready s) (htake : s.rspReady = true) {l : List (Fin 25 × Word)}
    {rest : List Command} (hport : s.offered = commands (loadsOf l) ++ rest) :
    run (2 * l.length) s = .next (loaded l { s with offered := rest }) := by
  induction l generalizing s with
  | nil =>
    obtain rfl : s.offered = rest := hport
    rw [loaded, List.length_nil, List.replicate_zero, List.append_nil]
    rfl
  | cons p l ih =>
    have hready' : Ready (loaded [p] { s with offered := commands (loadsOf l) ++ rest }) := hready
    rw [loaded_cons, List.length_cons, Nat.mul_add_one, Nat.add_comm, run_add _ (run_load hready htake hport)]
    exact ih hready' htake rfl

/-- Settles O27: loads of distinct lanes leave one state in whatever order, read lane by lane. -/
theorem loadOrderIsIrrelevant : Obligations.LoadOrderIsIrrelevant := by
  unfold Obligations.LoadOrderIsIrrelevant
  intro s l m hready htake hperm hnodup
  have hl := run_loads (s := { s with offered := commands (loadsOf l) }) hready htake (List.append_nil _).symm
  have hm := run_loads (s := { s with offered := commands (loadsOf m) }) hready htake (List.append_nil _).symm
  rw [← loaded_perm hperm hnodup] at hm
  exact ⟨_, hl, hm, hready, rfl, fun p hp => setAll_getElem_of_mem hnodup hp s.lanes,
    fun j hj => setAll_getElem_of_notMem hj s.lanes, rfl⟩

/-! ## Reading lanes -/

/-- RDLANE of each lane, in the order given. -/
def readsOf (l : List (Fin 25)) : List Instr := l.map fun i => .rdlane i.val

/-- The engine once the host has read the lanes and taken the responses (R90). -/
def readOut (l : List (Fin 25)) (s : State) : State :=
  { s with received := s.received ++ l.map fun i => ⟨.ok, s.lanes[i]⟩ }

theorem readOut_cons (i : Fin 25) (l : List (Fin 25)) (s : State) : readOut (i :: l) s = readOut l (readOut [i] s) := by
  simp [readOut]

/-- Its operand fits `arg`. -/
theorem decode_encode_rdlane (i : Fin 25) : decode (encode (.rdlane i.val)) = .ok (.rdlane i.val) :=
  decodeOfEncode _ ((wellFormed_iff _).mpr (by rw [Instr.operand]; omega))

/-- One RDLANE, answered and delivered (R88, R90). -/
theorem run_read {s : State} (hready : Ready s) (htake : s.rspReady = true) {i : Fin 25} {rest : List Command}
    (hport : s.offered = encode (.rdlane i.val) :: rest) :
    run 2 s = .next (readOut [i] { s with offered := rest }) :=
  run_two_of_respond (step_of_event (.read hready hport (decode_encode_rdlane i))) hready htake

/-- Reads take two steps each (R88, R90). -/
theorem run_reads {s : State} (hready : Ready s) (htake : s.rspReady = true) {l : List (Fin 25)}
    {rest : List Command} (hport : s.offered = commands (readsOf l) ++ rest) :
    run (2 * l.length) s = .next (readOut l { s with offered := rest }) := by
  induction l generalizing s with
  | nil =>
    obtain rfl : s.offered = rest := hport
    rw [readOut, List.map_nil, List.append_nil]
    rfl
  | cons i l ih =>
    have hready' : Ready (readOut [i] { s with offered := commands (readsOf l) ++ rest }) := hready
    rw [readOut_cons, List.length_cons, Nat.mul_add_one, Nat.add_comm, run_add _ (run_read hready htake hport)]
    exact ih hready' htake rfl

/-! ## Loads, a PERMUTE and reads -/

/-- Its operand fits `arg`. -/
theorem decode_encode_permute (n : Fin 25) : decode (encode (.permute n.val)) = .ok (.permute n.val) :=
  decodeOfEncode _ ((wellFormed_iff _).mpr (by rw [Instr.operand]; omega))

/-- A legal PERMUTE, answered and delivered, in an engine of either organisation. -/
theorem run_permute_delivered {s : State} (hready : Ready s) (htake : s.rspReady = true) {n : Fin 25}
    {rest : List Command} (hport : s.offered = encode (.permute n.val) :: rest) :
    ∃ k, run k s = .next (deliver ⟨.ok, 0⟩ (permuted n { s with offered := rest })) := by
  obtain ⟨k, hk⟩ := run_permute hready hport (decode_encode_permute n)
  obtain ⟨hrst, _, _⟩ := hready
  have hdelivery := step_of_event (.delivery (s := permuted n { s with offered := rest }) hrst rfl htake)
  exact ⟨k + 1, by rw [run_add 1 hk, run_one, hdelivery]⟩

theorem commands_append (p q : List Instr) : commands (p ++ q) = commands p ++ commands q := List.map_append

/-- Any loads, a PERMUTE and any reads, in that order: where the engine comes to rest and what it has answered. -/
theorem exists_run_loads_permute_reads {s : State} (hready : Ready s) (htake : s.rspReady = true)
    {l : List (Fin 25 × Word)} {n : Fin 25} {m : List (Fin 25)}
    (hport : s.offered = commands (loadsOf l ++ [.permute n.val] ++ readsOf m)) :
    ∃ k t, run k s = .next t ∧ t.offered = [] ∧ Ready t ∧
      t.lanes = runRounds tables s.params.variant n.val (Nat.le_of_lt_succ n.isLt) (setAll l s.lanes) ∧
      t.written = (if n.val = 0 then setAll (marksOf l) s.written
        else writtenAfterRounds (setAll (marksOf l) s.written)) ∧
      t.received = s.received ++ List.replicate (l.length + 1) ⟨.ok, 0⟩ ++ m.map fun i => ⟨.ok, t.lanes[i]⟩ := by
  rw [commands_append, commands_append, List.append_assoc] at hport
  have hloads := run_loads hready htake hport
  obtain ⟨k, hpermute⟩ := run_permute_delivered (n := n) (rest := commands (readsOf m))
    (s := loaded l { s with offered := commands [.permute n.val] ++ commands (readsOf m) }) hready htake rfl
  obtain ⟨hrst, hbusy, _⟩ := hready
  have hreads := run_reads (l := m) (rest := [])
    (s := deliver ⟨.ok, 0⟩ (permuted n (loaded l { s with offered := commands (readsOf m) })))
    ⟨hrst, hbusy, rfl⟩ htake (List.append_nil _).symm
  refine ⟨_, _, (run_add _ ((run_add _ hloads).trans hpermute)).trans hreads, rfl, ⟨hrst, hbusy, rfl⟩, rfl, rfl, ?_⟩
  rw [List.replicate_succ', ← List.append_assoc]
  rfl

/-! ## The whole lane file -/

/-- Every lane with its value, in rising order (R48). -/
def entriesOf (v : Lanes) : List (Fin 25 × Word) := (List.finRange 25).map fun i => (i, v[i])

theorem loadsOf_entriesOf (v : Lanes) : loadsOf (entriesOf v) = ldstate v := by
  simp [loadsOf, entriesOf, ldstate, Function.comp_def]

theorem length_entriesOf (v : Lanes) : (entriesOf v).length = 25 := by simp [entriesOf]

theorem nodup_entriesOf (v : Lanes) : ((entriesOf v).map Prod.fst).Nodup := by
  have hmap : (entriesOf v).map Prod.fst = List.finRange 25 := by simp [entriesOf, Function.comp_def]
  rw [hmap]
  exact List.nodup_finRange 25

theorem mem_entriesOf (v : Lanes) (i : Fin 25) : (i, v[i]) ∈ entriesOf v :=
  List.mem_map.mpr ⟨i, List.mem_finRange i, rfl⟩

/-- LDSTATE leaves nothing of the lanes before it. -/
theorem setAll_entriesOf (v A : Lanes) : setAll (entriesOf v) A = v :=
  lanes_ext fun i => setAll_getElem_of_mem (nodup_entriesOf v) (mem_entriesOf v i) A

/-- LDSTATE makes every lane specified (10_state.md R21). -/
theorem allSet_setAll_marksOf_entriesOf (v : Lanes) (w : Vector Bool 25) :
    allSet (setAll (marksOf (entriesOf v)) w) = true := by
  rw [allSet_iff]
  intro i
  have hnodup : ((marksOf (entriesOf v)).map Prod.fst).Nodup := map_fst_marksOf _ ▸ nodup_entriesOf v
  exact setAll_getElem_of_mem hnodup (List.mem_map.mpr ⟨_, mem_entriesOf v i, rfl⟩) w

/-- RDSTATE's answers are the lane file. -/
theorem map_finRange_getElem (v : Lanes) :
    ((List.finRange 25).map fun i => (⟨.ok, v[i]⟩ : Response)) = v.toList.map fun w => ⟨.ok, w⟩ := by
  apply List.ext_getElem <;> simp

/-- Settles O36: LDSTATE sets every lane and its ghost bit, so nothing of the lanes before it is left to permute or to
read. -/
theorem loadPermuteReadBack : Obligations.LoadPermuteReadBack := by
  unfold Obligations.LoadPermuteReadBack
  intro s v n h hready htake hport
  lift n to Fin 25 using Nat.lt_succ_of_le h
  rw [← loadsOf_entriesOf] at hport
  obtain ⟨k, t, hrun, hoffered, ⟨_, hbusy, hrsp⟩, hlanes, hwritten, hreceived⟩ :=
    exists_run_loads_permute_reads (m := List.finRange 25) hready htake hport
  rw [setAll_entriesOf] at hlanes
  have hidle : t.idle = true := by simp [State.idle, hbusy, hrsp]
  have hall : t.allWritten = true := by
    have hmarked := allSet_setAll_marksOf_entriesOf v s.written
    rw [State.allWritten, hwritten]
    split
    · exact hmarked
    · rw [allSet_writtenAfterRounds, hmarked]
  refine ⟨k, t, hrun, hoffered, hidle, hall, hlanes, ?_⟩
  rw [hreceived, length_entriesOf, map_finRange_getElem, hlanes]

end Sys2Proof
end

section
/-! PROOFS. Theta in both variants (40_theta.md R56 to R60): the parities, the column update, when the variants agree,
and the first rounds from the zero state. -/

namespace Sys2Proof.Machine

/-! ## The parities and the column update -/

/-- The parity of STD (R56). -/
theorem thetaParity_std (S : Lanes) (c : Fin 5) :
    thetaParity .std S c =
      S[laneAt c 0] ^^^ S[laneAt c 1] ^^^ S[laneAt c 2] ^^^ S[laneAt c 3] ^^^ S[laneAt c 4] := rfl

/-- The parity of MUL (R57). -/
theorem thetaParity_mul (S : Lanes) (c : Fin 5) :
    thetaParity .mul S c =
      S[laneAt c 0] ^^^ S[laneAt c 1] ^^^ (S[laneAt c 2] * S[laneAt c 3] * S[laneAt c 4]) := rfl

/-- The product of three words is their integer product reduced once (00_scope.md R5). -/
theorem mul_mul_eq_ofNat (a b c : Word) : a * b * c = BitVec.ofNat 64 (a.toNat * b.toNat * c.toNat) := by
  simp only [BitVec.ofNat_mul, BitVec.ofNat_toNat, BitVec.setWidth_eq]

/-- Theta on the lane of a column and a row (R58). -/
theorem theta_laneAt (v : Variant) (S : Lanes) (c k : Fin 5) :
    (theta v S)[laneAt c k] =
      S[laneAt c k] ^^^ (thetaParity v S (c + 4) ^^^ rotl (thetaParity v S (c + 1)) 1) := by
  rw [theta_getElem, colOf_laneAt]

/-- Settles O9: STD's parities are R56's word for word, and MUL's have their product reduced once. -/
theorem thetaByVariant : Obligations.ThetaByVariant := by
  unfold Obligations.ThetaByVariant
  intro v S c k
  cases v with
  | std => exact ⟨rfl, theta_laneAt .std S c k⟩
  | mul => simp only [theta_laneAt, thetaParity_mul, mul_mul_eq_ofNat, and_self]

/-! ## The zero state -/

@[simp] theorem zeroLanes_getElem (i : Nat) (hi : i < 25) : zeroLanes[i] = 0 := by simp [zeroLanes]

theorem thetaParity_zeroLanes (v : Variant) (c : Fin 5) : thetaParity v zeroLanes c = 0 := by
  cases v with
  | std => simp [thetaParity_std]
  | mul => simp [thetaParity_mul]

/-- R60 (a): every parity is 0, and a rotated 0 is 0. -/
theorem theta_zeroLanes (v : Variant) : theta v zeroLanes = zeroLanes := by
  refine lanes_ext fun i => ?_
  have hdelta : (0 : Word) ^^^ rotl 0 1 = 0 := by decide
  rw [theta_getElem, thetaParity_zeroLanes, thetaParity_zeroLanes, hdelta]
  exact BitVec.xor_zero

/-! ## Where the variants agree -/

/-- R60 (b): a zero factor makes the product 0. -/
theorem thetaParity_mul_of_zero_lane {S : Lanes} {c : Fin 5}
    (h : S[laneAt c 2] = 0 ∨ S[laneAt c 3] = 0 ∨ S[laneAt c 4] = 0) :
    thetaParity .mul S c = S[laneAt c 0] ^^^ S[laneAt c 1] := by
  have hproduct : S[laneAt c 2] * S[laneAt c 3] * S[laneAt c 4] = 0 := by
    rcases h with h | h | h
    all_goals simp [h]
  rw [thetaParity_mul, hproduct]
  exact BitVec.xor_zero

/-- R60 (d): rows 0 and 1 enter both parities alike. -/
theorem thetaParity_std_eq_mul_iff (S : Lanes) (c : Fin 5) :
    thetaParity .std S c = thetaParity .mul S c ↔
      S[laneAt c 2] ^^^ S[laneAt c 3] ^^^ S[laneAt c 4] = S[laneAt c 2] * S[laneAt c 3] * S[laneAt c 4] := by
  have hstd : thetaParity .std S c =
      (S[laneAt c 0] ^^^ S[laneAt c 1]) ^^^ (S[laneAt c 2] ^^^ S[laneAt c 3] ^^^ S[laneAt c 4]) := by
    simp only [thetaParity_std, BitVec.xor_assoc]
  rw [hstd, thetaParity_mul, BitVec.xor_right_inj]

/-- Theta sees the variant through the parities alone (R58). -/
theorem theta_congr {v w : Variant} {S : Lanes} (h : ∀ c : Fin 5, thetaParity v S c = thetaParity w S c) :
    theta v S = theta w S :=
  lanes_ext fun i => by rw [theta_getElem, theta_getElem, h, h]

/-- R60 (d)'s first case: where rows 2 to 4 are 0, so are their XOR and their product, in every column. -/
theorem theta_std_eq_mul_of_rows_zero {S : Lanes} (h : ∀ c k : Fin 5, 2 ≤ k → S[laneAt c k] = 0) :
    theta .std S = theta .mul S := by
  refine theta_congr fun c => (thetaParity_std_eq_mul_iff S c).mpr ?_
  rw [h c 2 (by decide), h c 3 (by decide), h c 4 (by decide)]
  decide

/-! ## Linearity -/

theorem xorLanes_getElem (A B : Lanes) (i : Fin 25) : (xorLanes A B)[i] = A[i] ^^^ B[i] := by simp [xorLanes]

/-- The parity of STD is a XOR of lanes, so it takes a XOR of states to the XOR of their parities. -/
theorem thetaParity_std_xorLanes (A B : Lanes) (c : Fin 5) :
    thetaParity .std (xorLanes A B) c = thetaParity .std A c ^^^ thetaParity .std B c := by
  simp only [thetaParity_std, xorLanes_getElem]
  ac_rfl

/-- R60 (f) for STD: the parities and the rotate by 1 are linear. -/
theorem theta_std_xorLanes (A B : Lanes) :
    theta .std (xorLanes A B) = xorLanes (theta .std A) (theta .std B) := by
  refine lanes_ext fun i => ?_
  simp only [theta_getElem, xorLanes_getElem, thetaParity_std_xorLanes,
    rotl_xor _ _ 1 (by decide) (by decide)]
  ac_rfl

/-- R60 (f) for MUL: lanes 10, 15 and 20 make column 0's product 1 when all three are 1, and 0 in the two states
they are the XOR of; lane 1 shows it. -/
theorem not_theta_mul_xorLanes :
    ¬ ∀ A B : Lanes, theta .mul (xorLanes A B) = xorLanes (theta .mul A) (theta .mul B) := by
  intro h
  have hlane := congrArg (·[(1 : Fin 25)]) (h ((zeroLanes.set 10 1).set 15 1) (zeroLanes.set 20 1))
  exact absurd hlane (by decide)

/-- Settles O10, clause by clause. -/
theorem thetaConsequences : Obligations.ThetaConsequences := by
  unfold Obligations.ThetaConsequences
  exact ⟨theta_zeroLanes, fun _ _ => thetaParity_mul_of_zero_lane, by decide, thetaParity_std_eq_mul_iff, by decide,
    theta_std_xorLanes, not_theta_mul_xorLanes⟩

/-! ## The first rounds from the zero state -/

/-- A round sees the variant through Theta alone (44_round_and_permute.md R76). -/
theorem runRound_congr {v w : Variant} {S : Lanes} (h : theta v S = theta w S) (tab : Config.Tables) (r : Fin 24) :
    runRound tab v r S = runRound tab w r S := by rw [runRound, runRound, h]

/-- After one round only lane 0 is not 0 (43_iota.md R74; vector P2). -/
theorem runRounds_one_zeroLanes (v : Variant) : runRounds tables v 1 (by decide) zeroLanes = zeroLanes.set 0 1 := by
  rw [runRounds, runRounds, runRound, theta_zeroLanes]
  decide

/-- Rows 2 to 4 are still 0 when the second round begins. -/
theorem runRounds_two_std_eq_mul :
    runRounds tables .std 2 (by decide) zeroLanes = runRounds tables .mul 2 (by decide) zeroLanes := by
  rw [runRounds, runRounds_one_zeroLanes, runRounds, runRounds_one_zeroLanes]
  exact runRound_congr (theta_std_eq_mul_of_rows_zero (by decide)) tables 1

/-- The lanes after two rounds (vector P3). -/
def afterTwoRounds : Lanes :=
  lanesOfRows #v[
    #v[0x0000000000008083, 0x0000100000000000, 0x0000000000008000, 0x0000000000000001, 0x0000100000008000],
    #v[0x0000000000000000, 0x0000200000200000, 0x0000000000000000, 0x0000200000000000, 0x0000000000200000],
    #v[0x0000000000000002, 0x0000000000000200, 0x0000000000000000, 0x0000000000000202, 0x0000000000000000],
    #v[0x0000000010000400, 0x0000000000000000, 0x0000000000000400, 0x0000000010000000, 0x0000000000000000],
    #v[0x0000010000000000, 0x0000000000000000, 0x0000010000000004, 0x0000000000000000, 0x0000000000000004]]

theorem runRounds_two_zeroLanes (v : Variant) : runRounds tables v 2 (by decide) zeroLanes = afterTwoRounds := by
  have hstd : runRounds tables .std 2 (by decide) zeroLanes = afterTwoRounds := by
    rw [runRounds, runRounds_one_zeroLanes]
    decide
  cases v with
  | std => exact hstd
  | mul => exact runRounds_two_std_eq_mul.symm.trans hstd

/-- Lane 0 after the third round is one word in STD and another in MUL (vector P4). -/
theorem runRound_two_afterTwoRounds :
    (runRound tables .std 2 afterTwoRounds)[0] = 0x8030500001E0840C ∧
      (runRound tables .mul 2 afterTwoRounds)[0] = 0x8000700001E08008 := by decide

theorem runRounds_three_std_ne_mul :
    runRounds tables .std 3 (by decide) zeroLanes ≠ runRounds tables .mul 3 (by decide) zeroLanes := by
  rw [runRounds, runRounds_two_zeroLanes, runRounds, runRounds_two_zeroLanes]
  intro h
  obtain ⟨hstd, hmul⟩ := runRound_two_afterTwoRounds
  exact absurd (hstd.symm.trans ((congrArg (·[0]) h).trans hmul)) (by decide)

/-- Settles O11: the first round starts from zeros, the second from rows 2 to 4 at zero, and the third from P3. -/
theorem variantsPartAtRoundThree : Obligations.VariantsPartAtRoundThree := by
  unfold Obligations.VariantsPartAtRoundThree
  exact ⟨(runRounds_one_zeroLanes .std).trans (runRounds_one_zeroLanes .mul).symm, runRounds_two_std_eq_mul,
    runRounds_three_std_ne_mul⟩

end Sys2Proof.Machine
end

section
/-! PROOFS. Rho+Pi (41_rho_pi.md R62 to R66): the chain of distinct destinations is the parallel assignment, and what
follows for the table values of this spec: lane 0 is untouched, and the step is a linear bijection. -/

namespace Sys2Proof.Machine

/-! ## The chain against the parallel assignment -/

/-- R63's assignments in chain order, every right-hand side a lane of `S`. -/
def rhoPiAssignments (tab : Config.Tables) (S : Lanes) : List (Fin 25 × Word) :=
  (List.finRange 24).map fun i => (tab.piln[i], rotl S[chainSource tab i] tab.rotc[i])

/-- The lanes and `T` after the first `n` iterations of the chain (R62). -/
def rhoPiAfter (tab : Config.Tables) (S : Lanes) (n : Nat) : Lanes × Word :=
  ((List.finRange 24).take n).foldl (rhoPiLink tab) (S, S[1])

theorem take_add_one_finRange (i : Fin 24) :
    (List.finRange 24).take (i.val + 1) = (List.finRange 24).take i.val ++ [i] := by
  rw [List.take_succ_eq_append_getElem (by simp), List.getElem_finRange]
  rfl

theorem rhoPiAfter_succ (tab : Config.Tables) (S : Lanes) (i : Fin 24) :
    rhoPiAfter tab S (i.val + 1) = rhoPiLink tab (rhoPiAfter tab S i.val) i := by
  rw [rhoPiAfter, take_add_one_finRange, rhoPi_foldl_append]
  rfl

theorem rhoPiAfter_full (tab : Config.Tables) (S : Lanes) : (rhoPiAfter tab S 24).1 = rhoPi tab S := by
  rw [rhoPiAfter, List.take_of_length_le (by simp), rhoPi]

theorem setAll_concat {α : Type} (l : List (Fin 25 × α)) (p : Fin 25 × α) (A : Vector α 25) :
    setAll (l ++ [p]) A = (setAll l A).set p.1 p.2 := List.foldl_append

theorem map_fst_rhoPiAssignments (tab : Config.Tables) (S : Lanes) :
    (rhoPiAssignments tab S).map Prod.fst = (List.finRange 24).map fun i => tab.piln[i] := by
  simp [rhoPiAssignments]

theorem take_add_one_rhoPiAssignments (tab : Config.Tables) (S : Lanes) (i : Fin 24) :
    (rhoPiAssignments tab S).take (i.val + 1) =
      (rhoPiAssignments tab S).take i.val ++ [(tab.piln[i], rotl S[chainSource tab i] tab.rotc[i])] := by
  simp only [rhoPiAssignments, ← List.map_take, take_add_one_finRange, List.map_append, List.map_cons, List.map_nil]

/-- The lane a link writes is the source of the next link (R63). -/
theorem getElem_chainSource_succ (tab : Config.Tables) (S : Lanes) (i : Fin 24) (h : i.val + 1 < 24) :
    S[chainSource tab ⟨i.val + 1, h⟩] = S[tab.piln[i]] := rfl

section
variable {tab : Config.Tables} (hdistinct : ∀ i j : Fin 24, tab.piln[i] = tab.piln[j] → i = j)
include hdistinct

theorem nodup_map_fst_rhoPiAssignments (S : Lanes) : ((rhoPiAssignments tab S).map Prod.fst).Nodup := by
  rw [map_fst_rhoPiAssignments]
  exact (List.nodup_finRange 24).map hdistinct

/-- No iteration before the `i`-th writes its destination. -/
theorem piln_notMem_take_rhoPiAssignments (S : Lanes) (i : Fin 24) :
    tab.piln[i] ∉ ((rhoPiAssignments tab S).take i.val).map Prod.fst := by
  have hnodup : (((rhoPiAssignments tab S).take (i.val + 1)).map Prod.fst).Nodup :=
    (nodup_map_fst_rhoPiAssignments hdistinct S).sublist ((List.take_sublist _ _).map _)
  rw [take_add_one_rhoPiAssignments, List.map_append, List.nodup_append] at hnodup
  obtain ⟨_, _, hne⟩ := hnodup
  exact fun hmem => hne _ hmem _ (by simp) rfl

/-- R63's argument: iteration `i` finds the old value of its source in `T`, since the iteration before it was the first
to write that lane and saved it. -/
theorem rhoPiAfter_eq_setAll (S : Lanes) (n : Nat) (hn : n ≤ 24) :
    (rhoPiAfter tab S n).1 = setAll ((rhoPiAssignments tab S).take n) S ∧
      ∀ h : n < 24, (rhoPiAfter tab S n).2 = S[chainSource tab ⟨n, h⟩] := by
  induction n with
  | zero => exact ⟨rfl, fun _ => rfl⟩
  | succ n ih =>
    obtain ⟨hlanes, hT⟩ := ih (by omega)
    let i : Fin 24 := ⟨n, hn⟩
    have hlink : rhoPiAfter tab S (n + 1) = rhoPiLink tab (rhoPiAfter tab S n) i := rhoPiAfter_succ tab S i
    have htake := take_add_one_rhoPiAssignments tab S i
    rw [hlink]
    constructor
    · rw [htake, setAll_concat, rhoPiLink, hlanes, hT hn]
    · intro h
      rw [rhoPiLink, hlanes, getElem_chainSource_succ tab S i h]
      exact setAll_getElem_of_notMem (piln_notMem_take_rhoPiAssignments hdistinct S i) S

/-- For distinct destinations the chain is the parallel assignment. -/
theorem rhoPi_eq_setAll (S : Lanes) : rhoPi tab S = setAll (rhoPiAssignments tab S) S := by
  rw [← rhoPiAfter_full, (rhoPiAfter_eq_setAll hdistinct S 24 le_rfl).1,
    List.take_of_length_le (by simp [rhoPiAssignments])]

theorem rhoPi_getElem_piln (S : Lanes) (i : Fin 24) :
    (rhoPi tab S)[tab.piln[i]] = rotl S[chainSource tab i] tab.rotc[i] := by
  rw [rhoPi_eq_setAll hdistinct]
  exact setAll_getElem_of_mem (nodup_map_fst_rhoPiAssignments hdistinct S)
    (List.mem_map.mpr ⟨i, List.mem_finRange i, rfl⟩) S

theorem rhoPi_getElem_of_ne_piln (S : Lanes) {l : Fin 25} (hl : ∀ i : Fin 24, tab.piln[i] ≠ l) :
    (rhoPi tab S)[l] = S[l] := by
  rw [rhoPi_eq_setAll hdistinct]
  refine setAll_getElem_of_notMem ?_ S
  rw [map_fst_rhoPiAssignments, List.mem_map]
  rintro ⟨i, _, hi⟩
  exact hl i hi

end

/-- Settles O14, from the parallel form and what a list of assignments does to each lane. -/
theorem rhoPiChainForDistinctDestinations : Obligations.RhoPiChainForDistinctDestinations := by
  unfold Obligations.RhoPiChainForDistinctDestinations
  exact fun tab hdistinct S => ⟨rhoPi_getElem_piln hdistinct S, fun l hl => rhoPi_getElem_of_ne_piln hdistinct S hl⟩

/-! ## Rho+Pi with the table values of this spec -/

/-- R63 at a destination. -/
theorem rhoPi_tables_getElem_piln (S : Lanes) (i : Fin 24) :
    (rhoPi tables S)[tables.piln[i]] = rotl S[chainSource tables i] tables.rotc[i] :=
  rhoPi_getElem_piln piln_injective S i

/-- R64's first half. -/
theorem rhoPi_tables_getElem_zero (S : Lanes) : (rhoPi tables S)[0] = S[0] :=
  rhoPi_getElem_of_ne_piln piln_injective S (l := 0) piln_ne_zero

/-- Lane 0 and the 24 destinations are all the lanes, so what Rho+Pi makes is known from them. -/
theorem rhoPi_tables_eq_of_getElem {S A : Lanes} (hzero : S[0] = A[0])
    (hpiln : ∀ i : Fin 24, rotl S[chainSource tables i] tables.rotc[i] = A[tables.piln[i]]) : rhoPi tables S = A := by
  refine lanes_ext fun l => ?_
  by_cases hl : l = 0
  · subst hl
    exact (rhoPi_tables_getElem_zero S).trans hzero
  · obtain ⟨i, rfl⟩ := exists_piln_eq hl
    exact (rhoPi_tables_getElem_piln S i).trans (hpiln i)

/-- PILN[23] is the lane the chain starts from, so the sources are the destinations moved round by one place. -/
theorem chainSource_add_one : ∀ i : Fin 24, chainSource tables (i + 1) = tables.piln[i] := by decide

theorem chainSource_ne_zero (i : Fin 24) : chainSource tables i ≠ 0 := by
  have h := chainSource_add_one (i - 1)
  rw [sub_add_cancel] at h
  exact h ▸ piln_ne_zero (i - 1)

theorem exists_chainSource_eq {l : Fin 25} (hl : l ≠ 0) : ∃ i : Fin 24, chainSource tables i = l := by
  obtain ⟨i, hi⟩ := exists_piln_eq hl
  exact ⟨i + 1, (chainSource_add_one i).trans hi⟩

/-- Each triple of R63's list is one link of the chain. -/
theorem exists_link_of_mem_rhoPiTriples : ∀ p ∈ rhoPiTriples,
    ∃ i : Fin 24, p = (tables.piln[i], chainSource tables i, tables.rotc[i]) := by decide

theorem rhoPiTriples_once_each : ∀ l : Fin 25, l ≠ 0 →
    (rhoPiTriples.filter fun p => p.1 = l).length = 1 ∧ (rhoPiTriples.filter fun p => p.2.1 = l).length = 1 := by
  decide

/-- Settles O13: R63 at every destination, the list read off as links of the chain, and its lanes counted. -/
theorem rhoPiIsParallelAssignment : Obligations.RhoPiIsParallelAssignment := by
  unfold Obligations.RhoPiIsParallelAssignment
  refine ⟨fun S => ⟨rhoPi_tables_getElem_zero S, rhoPi_tables_getElem_piln S, fun p hp => ?_⟩, rhoPiTriples_once_each⟩
  obtain ⟨i, rfl⟩ := exists_link_of_mem_rhoPiTriples p hp
  exact rhoPi_tables_getElem_piln S i

/-! ## Lane 0 -/

/-- R64's second half: no link reads lane 0 or writes it. -/
theorem rhoPi_tables_set_zero (S : Lanes) (w : Word) : rhoPi tables (S.set 0 w) = (rhoPi tables S).set 0 w := by
  have hother (A : Lanes) {l : Fin 25} (hl : l ≠ 0) : (A.set 0 w)[l] = A[l] :=
    Vector.getElem_set_ne _ _ fun h => hl (Fin.ext h.symm)
  refine rhoPi_tables_eq_of_getElem ?_ fun i => ?_
  · rw [Vector.getElem_set_self, Vector.getElem_set_self]
  · rw [hother S (chainSource_ne_zero i), hother _ (piln_ne_zero i), rhoPi_tables_getElem_piln]

/-- Settles O15. -/
theorem rhoPiLeavesLaneZero : Obligations.RhoPiLeavesLaneZero := by
  unfold Obligations.RhoPiLeavesLaneZero
  exact ⟨piln_ne_zero, fun S w => ⟨rhoPi_tables_getElem_zero S, rhoPi_tables_set_zero S w⟩⟩

/-! ## A linear bijection -/

/-- Every bit of a word is found again in the rotated word (00_scope.md R6). -/
theorem rotl_injective {n : Nat} (h1 : 1 ≤ n) (h2 : n ≤ 63) : Function.Injective (rotl · n) := by
  intro v w h
  refine BitVec.eq_of_getLsbD_eq fun i hi => ?_
  rw [← rotl_getLsbD_add_mod v h1 h2 hi, ← rotl_getLsbD_add_mod w h1 h2 hi]
  exact congrArg (·.getLsbD ((i + n) % 64)) h

/-- Lane 0 stays, and every other lane is the source of a link. -/
theorem rhoPi_tables_injective : Function.Injective (rhoPi tables) := by
  intro A B h
  refine lanes_ext fun l => ?_
  by_cases hl : l = 0
  · subst hl
    calc A[0] = (rhoPi tables A)[0] := (rhoPi_tables_getElem_zero A).symm
      _ = (rhoPi tables B)[0] := by rw [h]
      _ = B[0] := rhoPi_tables_getElem_zero B
  · obtain ⟨i, rfl⟩ := exists_chainSource_eq hl
    obtain ⟨h1, h2⟩ := rotc_bounds i
    refine rotl_injective h1 h2 ?_
    calc rotl A[chainSource tables i] tables.rotc[i]
        = (rhoPi tables A)[tables.piln[i]] := (rhoPi_tables_getElem_piln A i).symm
      _ = (rhoPi tables B)[tables.piln[i]] := by rw [h]
      _ = rotl B[chainSource tables i] tables.rotc[i] := rhoPi_tables_getElem_piln B i

/-- There are finitely many lane files. -/
theorem finite_lanes : Finite Lanes := by
  have : Finite Word := Finite.of_injective BitVec.toFin fun _ _ => BitVec.eq_of_toFin_eq
  exact Finite.of_injective (fun (S : Lanes) (i : Fin 25) => S[i]) fun _ _ h => lanes_ext (congrFun h)

theorem xorLanes_getElem_zero (A B : Lanes) : (xorLanes A B)[0] = A[0] ^^^ B[0] := xorLanes_getElem A B 0

/-- R65: Rho+Pi is linear, as every link's rotate is. -/
theorem rhoPi_tables_xorLanes (A B : Lanes) :
    rhoPi tables (xorLanes A B) = xorLanes (rhoPi tables A) (rhoPi tables B) := by
  refine rhoPi_tables_eq_of_getElem ?_ fun i => ?_
  · rw [xorLanes_getElem_zero, xorLanes_getElem_zero, rhoPi_tables_getElem_zero, rhoPi_tables_getElem_zero]
  · obtain ⟨h1, h2⟩ := rotc_bounds i
    simp only [xorLanes_getElem, rhoPi_tables_getElem_piln, rotl_xor _ _ _ h1 h2]

theorem rotl_zero (n : Nat) : rotl 0 n = 0 := by simp [rotl]

theorem rhoPi_tables_zeroLanes : rhoPi tables zeroLanes = zeroLanes :=
  rhoPi_tables_eq_of_getElem rfl fun i => by simp only [Fin.getElem_fin, zeroLanes_getElem, rotl_zero]

/-- Settles O16: a one-to-one function on finitely many lane files is onto. -/
theorem rhoPiIsLinearBijection : Obligations.RhoPiIsLinearBijection := by
  unfold Obligations.RhoPiIsLinearBijection
  have := finite_lanes
  exact ⟨rhoPi_tables_injective, Finite.surjective_of_injective rhoPi_tables_injective, rhoPi_tables_xorLanes,
    rhoPi_tables_zeroLanes⟩

end Sys2Proof.Machine
end

section
/-! PROOFS. Chi (42_chi.md R68 to R70): each row from its old values, its fixed points, rows with one non-zero lane, and
that it is a bijection but not linear. -/

namespace Sys2Proof.Machine

/-! ## One lane of a row -/

/-- Chi on the lane of a column and a row (R68). -/
theorem chi_laneAt (S : Lanes) (x y : Fin 5) :
    (chi S)[laneAt x y] = S[laneAt x y] ^^^ (~~~S[laneAt (x + 1) y] &&& S[laneAt (x + 2) y]) := by
  simp only [chi_getElem, colOf_laneAt, rowOf_laneAt]

/-- Settles O17: it is Chi on one lane, read at a column and a row. -/
theorem chiOnOldRow : Obligations.ChiOnOldRow := by
  unfold Obligations.ChiOnOldRow
  exact chi_laneAt

/-- R70 (a): NOT, AND and XOR act bit by bit. -/
theorem chi_laneAt_getLsbD (S : Lanes) (x y : Fin 5) {b : Nat} (hb : b < 64) :
    (chi S)[laneAt x y].getLsbD b =
      (S[laneAt x y].getLsbD b ^^ (!S[laneAt (x + 1) y].getLsbD b && S[laneAt (x + 2) y].getLsbD b)) := by
  rw [chi_laneAt, BitVec.getLsbD_xor, BitVec.getLsbD_and, BitVec.getLsbD_not, decide_eq_true hb, Bool.true_and]

/-! ## Rows of equal lanes -/

/-- R70 (b): where the next two lanes of the row are equal, `~v & v` leaves nothing to XOR in. -/
theorem chi_laneAt_of_next_eq {S : Lanes} {x y : Fin 5} (h : S[laneAt (x + 1) y] = S[laneAt (x + 2) y]) :
    (chi S)[laneAt x y] = S[laneAt x y] := by
  rw [chi_laneAt, h, BitVec.and_comm, BitVec.and_not_self]
  exact BitVec.xor_zero

/-- A state of 25 equal lanes is a fixed point of Chi. -/
theorem chi_replicate (w : Word) : chi (Vector.replicate 25 w) = Vector.replicate 25 w := by
  refine lanes_ext fun i => ?_
  rw [← laneAt_colOf_rowOf i]
  exact chi_laneAt_of_next_eq (by simp)

theorem chi_zeroLanes : chi zeroLanes = zeroLanes := chi_replicate 0

/-! ## Rows with one non-zero lane -/

/-- A 0 lane stays 0 where the second factor of its AND, two columns on, is 0. -/
theorem chi_laneAt_eq_zero {S : Lanes} {x y : Fin 5} (hself : S[laneAt x y] = 0) (hlast : S[laneAt (x + 2) y] = 0) :
    (chi S)[laneAt x y] = 0 := by
  rw [chi_laneAt, hself, hlast]
  simp

/-- R70 (c): the AND is non-zero only where the lane two columns on is column `x`, which is at column `x + 3`. -/
theorem chi_row_of_one_lane {S : Lanes} {x y : Fin 5} (hrow : ∀ x' : Fin 5, x' ≠ x → S[laneAt x' y] = 0) :
    (chi S)[laneAt x y] = S[laneAt x y] ∧ (chi S)[laneAt (x + 3) y] = S[laneAt x y] ∧
      ∀ x' : Fin 5, x' ≠ x → x' ≠ x + 3 → (chi S)[laneAt x' y] = 0 := by
  refine ⟨?_, ?_, fun x' hx hx3 => ?_⟩
  · exact chi_laneAt_of_next_eq ((hrow (x + 1) (by omega)).trans (hrow (x + 2) (by omega)).symm)
  · have hnext : x + 3 + 1 ≠ x := by omega
    have hback : x + 3 + 2 = x := by omega
    simp only [chi_laneAt, hrow (x + 3) (by omega), hrow _ hnext, hback]
    rw [BitVec.ofNat_eq_ofNat, BitVec.not_zero, BitVec.allOnes_and, BitVec.zero_xor]
  · exact chi_laneAt_eq_zero (hrow x' hx) (hrow (x' + 2) (by omega))

/-! ## A bijection -/

/-- Five bits of a row at one bit position: the first is known from what R68 makes of the five (R70 (d)). -/
theorem bit_eq_of_chi_bits : ∀ a b c d e : Bool,
    ((a ^^ (!b && c)) ^^ (!(b ^^ (!c && d)) && ((c ^^ (!d && e)) ^^ (!(d ^^ (!e && a)) && (e ^^ (!a && b)))))) = a := by
  decide

/-- Every old lane is a function of the new lanes of its row: the inverse of Chi, bit by bit. -/
theorem laneAt_eq_of_chi (S : Lanes) (x y : Fin 5) :
    S[laneAt x y] = (chi S)[laneAt x y] ^^^ (~~~(chi S)[laneAt (x + 1) y] &&& ((chi S)[laneAt (x + 2) y] ^^^
      (~~~(chi S)[laneAt (x + 3) y] &&& (chi S)[laneAt (x + 4) y]))) := by
  refine BitVec.eq_of_getLsbD_eq fun b hb => ?_
  have hcol (m n : Fin 5) : x + m + n = x + (m + n) := add_assoc x m n
  simp only [BitVec.getLsbD_xor, BitVec.getLsbD_and, BitVec.getLsbD_not, hb, decide_true, Bool.true_and,
    chi_laneAt_getLsbD S _ y hb, hcol, Fin.reduceAdd, add_zero]
  exact (bit_eq_of_chi_bits _ _ _ _ _).symm

theorem chi_injective : Function.Injective chi := by
  intro A B h
  refine lanes_ext fun i => ?_
  rw [← laneAt_colOf_rowOf i, laneAt_eq_of_chi A, laneAt_eq_of_chi B, h]

/-- A one-to-one function on finitely many lane files is onto. -/
theorem chi_surjective : Function.Surjective chi :=
  have := finite_lanes
  Finite.surjective_of_injective chi_injective

/-! ## Not linear -/

/-- R70 (e): lane 0 takes bit 0 of lane 2 when lane 1 is 0, and not when lane 1 is 1. -/
theorem not_chi_xorLanes : ¬ ∀ A B : Lanes, chi (xorLanes A B) = xorLanes (chi A) (chi B) := by
  intro h
  have hlane := congrArg (·[(0 : Fin 25)]) (h (zeroLanes.set 1 1) (zeroLanes.set 2 1))
  exact absurd hlane (by decide)

/-- Settles O18, clause by clause. -/
theorem chiConsequences : Obligations.ChiConsequences := by
  unfold Obligations.ChiConsequences
  refine ⟨fun S x y _ => chi_laneAt_getLsbD S x y, fun S y hrow x => ?_, chi_zeroLanes, chi_replicate _,
    fun _ _ _ => chi_row_of_one_lane, ⟨chi_injective, chi_surjective⟩, not_chi_xorLanes⟩
  exact chi_laneAt_of_next_eq ((hrow (x + 1)).trans (hrow (x + 2)).symm)

end Sys2Proof.Machine
end

section
/-! PROOFS. Iota (43_iota.md R72 to R74): lane 0 and the others, what it does twice and on the zero state, the rounds
that share a constant, and the bits it can change. -/

namespace Sys2Proof.Machine

/-! ## One lane -/

theorem iota_getElem_zero (tab : Config.Tables) (r : Fin 24) (S : Lanes) : (iota tab r S)[0] = S[0] ^^^ tab.rc[r] :=
  iota_getElem tab r S 0

theorem iota_getElem_of_ne_zero (tab : Config.Tables) (r : Fin 24) (S : Lanes) {l : Fin 25} (hl : l ≠ 0) :
    (iota tab r S)[l] = S[l] := by
  rw [iota_getElem, if_neg hl]

/-- Settles O19: it is Iota on lane 0 and on another lane. -/
theorem iotaTouchesLaneZero : Obligations.IotaTouchesLaneZero := by
  unfold Obligations.IotaTouchesLaneZero
  exact fun r S => ⟨iota_getElem_zero tables r S, fun _ => iota_getElem_of_ne_zero tables r S⟩

/-! ## Twice, and on the zero state -/

/-- R74 (a): the constant cancels in lane 0. -/
theorem iota_iota (tab : Config.Tables) (r : Fin 24) (S : Lanes) : iota tab r (iota tab r S) = S := by
  refine lanes_ext fun l => ?_
  by_cases hl : l = 0
  · subst hl
    calc (iota tab r (iota tab r S))[0]
        = S[0] ^^^ tab.rc[r] ^^^ tab.rc[r] := by rw [iota_getElem_zero, iota_getElem_zero]
      _ = S[0] := by rw [BitVec.xor_assoc, BitVec.xor_self, BitVec.xor_zero]
  · rw [iota_getElem_of_ne_zero tab r _ hl, iota_getElem_of_ne_zero tab r S hl]

theorem rc_ne_zero : ∀ r : Fin 24, tables.rc[r] ≠ 0 := by decide

/-- R74 (b): the constant itself is left in lane 0. -/
theorem iota_zeroLanes (tab : Config.Tables) (r : Fin 24) : iota tab r zeroLanes = zeroLanes.set 0 tab.rc[r] := by
  rw [iota, zeroLanes_getElem]
  exact congrArg (zeroLanes.set 0) BitVec.zero_xor

/-- The steps before Iota fix the zero state, so a round on it is Iota (R74 (b)). -/
theorem runRound_zeroLanes (v : Variant) (r : Fin 24) :
    runRound tables v r zeroLanes = zeroLanes.set 0 tables.rc[r] := by
  rw [runRound, theta_zeroLanes, rhoPi_tables_zeroLanes, chi_zeroLanes, iota_zeroLanes]

/-! ## Rounds with the same constant -/

/-- The constant is all that tells one round from another (R72). -/
theorem runRound_eq_of_rc_eq {tab : Config.Tables} {r q : Fin 24} (h : tab.rc[r] = tab.rc[q]) (v : Variant) :
    runRound tab v r = runRound tab v q := by
  funext S
  rw [runRound, runRound, iota, iota, h]

/-- The two pairs of R74 (c) are the only equal entries of RC. -/
theorem eq_or_pair_of_rc_eq : ∀ r q : Fin 24, tables.rc[r] = tables.rc[q] →
    r = q ∨ (r = 5 ∧ q = 22) ∨ (r = 22 ∧ q = 5) ∨ (r = 6 ∧ q = 20) ∨ (r = 20 ∧ q = 6) := by decide

/-! ## The bits of the constants -/

/-- R74 (d)'s seven bit positions. -/
def rcBits : List Nat := [0, 1, 3, 7, 15, 31, 63]

theorem rc_getLsbD_of_lt : ∀ (r : Fin 24) (b : Fin 64), tables.rc[r].getLsbD b.val = true → b.val ∈ rcBits := by decide

/-- Every entry of RC has its one-bits among the seven positions. -/
theorem mem_rcBits_of_rc_getLsbD {r : Fin 24} {b : Nat} (h : tables.rc[r].getLsbD b = true) : b ∈ rcBits :=
  rc_getLsbD_of_lt r ⟨b, BitVec.lt_of_getLsbD h⟩ h

/-- Iota changes a bit of lane 0 only where the constant has a one. -/
theorem rc_getLsbD_of_iota_ne {tab : Config.Tables} {r : Fin 24} {S : Lanes} {b : Nat}
    (h : (iota tab r S)[0].getLsbD b ≠ S[0].getLsbD b) : tab.rc[r].getLsbD b = true := by
  by_contra hzero
  rw [Bool.not_eq_true] at hzero
  rw [iota_getElem_zero, BitVec.getLsbD_xor, hzero, Bool.xor_false] at h
  exact h rfl

/-- Settles O20, clause by clause: (c)'s rounds are equal as their constants are, and (d)'s positions are where the
constants have their ones. -/
theorem iotaConsequences : Obligations.IotaConsequences := by
  unfold Obligations.IotaConsequences
  refine ⟨iota_iota tables, fun r => ⟨rc_ne_zero r, iota_zeroLanes tables r⟩, theta_zeroLanes, rhoPi_tables_zeroLanes,
    chi_zeroLanes, fun v => runRound_zeroLanes v 0, by decide,
    fun v => ⟨runRound_eq_of_rc_eq (by decide) v, runRound_eq_of_rc_eq (by decide) v⟩, eq_or_pair_of_rc_eq,
    fun r S b hb => ?_⟩
  have hmem : b ∈ rcBits := mem_rcBits_of_rc_getLsbD (rc_getLsbD_of_iota_ne hb)
  simpa only [rcBits, List.mem_cons, List.not_mem_nil, or_false] using hmem

end Sys2Proof.Machine
end

section
/-! PROOFS. PERMUTE as the host's commands reach it (44_round_and_permute.md R76 to R86): the order of its rounds, its
acceptance, how many steps it takes in either organisation, two in a row, and the known answer. -/

namespace Sys2Proof.Machine

/-! ## The order of the rounds -/

theorem runRounds_eq_foldl (tab : Config.Tables) (v : Variant) (n : Nat) (h : n ≤ 24) (S : Lanes) :
    runRounds tab v n h S = ((List.finRange 24).take n).foldl (fun T r => runRound tab v r T) S := by
  induction n with
  | zero => rfl
  | succ k ih =>
    rw [runRounds, ih, take_add_one_finRange ⟨k, h⟩, List.foldl_append]
    rfl

/-- Settles O21: the round is its definition, and one round more is one index more of the list. -/
theorem roundsCountUpFromZero : Obligations.RoundsCountUpFromZero := by
  unfold Obligations.RoundsCountUpFromZero
  exact ⟨fun _ _ _ _ => rfl, runRounds_eq_foldl⟩

/-- The rounds from ROUND(n) on finish what the first n began (R77). -/
theorem runRounds_full_eq_foldl_drop (tab : Config.Tables) (v : Variant) (n : Nat) (h : n ≤ 24) (S : Lanes) :
    runRounds tab v 24 le_rfl S =
      ((List.finRange 24).drop n).foldl (fun T r => runRound tab v r T) (runRounds tab v n h S) := by
  rw [runRounds_eq_foldl, runRounds_eq_foldl, ← List.foldl_append, List.take_append_drop,
    List.take_of_length_le (by simp)]

/-! ## Acceptance -/

/-- A legal PERMUTE in an ITERATED engine (R82). -/
theorem exec_permute_iterated {s : State} (himpl : s.params.impl = .iterated) (n : Fin 25) :
    exec (.permute n.val) s = .next (startRounds n s) := by
  simp [exec, execPermute, roundCount?, himpl]

/-- A legal PERMUTE in an UNROLLED engine (R83). -/
theorem exec_permute_unrolled {s : State} (himpl : s.params.impl = .unrolled) (n : Fin 25) :
    exec (.permute n.val) s = .next (permuted n s) := by
  simp [exec, execPermute, roundCount?, himpl, permuteAtOnce_eq_permuted]

/-- Settles O28: the start of the rounds in one organisation, all of them in the other. -/
theorem permuteIsAccepted : Obligations.PermuteIsAccepted := by
  unfold Obligations.PermuteIsAccepted
  intro s n h
  lift n to Fin 25 using Nat.lt_succ_of_le h
  exact ⟨fun himpl => exec_permute_iterated himpl n, fun himpl => exec_permute_unrolled himpl n⟩

/-- Settles O29: the range check fails, and a rejection is the response alone. -/
theorem permuteAbove24IsRejected : Obligations.PermuteAbove24IsRejected := by
  unfold Obligations.PermuteAbove24IsRejected
  intro s n hn
  have herr : rangeError (.permute n) = some .errRounds := if_neg (by omega)
  exact exec_of_rangeError herr s

/-! ## From the port to the response -/

/-- ITERATED: the acceptance and k rounds (R82). -/
theorem run_permute_rounds {s : State} {c : Command} {rest : List Command} {n : Fin 25} (hready : Ready s)
    (himpl : s.params.impl = .iterated) (hport : s.offered = c :: rest) (hdec : decode c = .ok (.permute n.val))
    {k : Nat} (hk : k ≤ n.val) :
    run (k + 1) s = .next (inRounds n k (by omega) { s with offered := rest }) := by
  rw [run_succ k (step_of_event (.start hready hport hdec himpl))]
  obtain ⟨hrst, _, hrsp⟩ := hready
  exact run_startRounds (s := { s with offered := rest }) hrst hrsp himpl hk

/-- The steps from a PERMUTE on the port to its response: acceptance, n rounds and completion in an ITERATED engine,
one step in an UNROLLED one (R82, R83). -/
def permuteSteps : Impl → Nat → Nat
  | .iterated, n => n + 2
  | .unrolled, _ => 1

/-- In either organisation those steps leave the answered PERMUTE. -/
theorem run_permuteSteps {s : State} {c : Command} {rest : List Command} {n : Fin 25} (hready : Ready s)
    (hport : s.offered = c :: rest) (hdec : decode c = .ok (.permute n.val)) :
    run (permuteSteps s.params.impl n) s = .next (permuted n { s with offered := rest }) := by
  cases himpl : s.params.impl with
  | iterated =>
    have hready' : Ready { s with offered := rest } := hready
    rw [permuteSteps, run_succ _ (step_of_event (.start hready hport hdec himpl)),
      run_startRounds_completion hready' himpl]
  | unrolled =>
    rw [permuteSteps, run_one, step_of_event (.atOnce hready hport hdec himpl), permuteAtOnce_eq_permuted]

/-- Settles O30: the state after the acceptance and k rounds, and the answered PERMUTE. -/
theorem iteratedPermuteRoundByRound : Obligations.IteratedPermuteRoundByRound := by
  unfold Obligations.IteratedPermuteRoundByRound
  intro s c rest n h hready himpl hport hdec
  lift n to Fin 25 using Nat.lt_succ_of_le h
  have hanswered := run_permuteSteps hready hport hdec
  rw [himpl] at hanswered
  exact ⟨fun k hk => ⟨_, run_permute_rounds hready himpl hport hdec hk⟩, _, hanswered⟩

/-- Settles O31: both engines leave the answered PERMUTE, whose fields but IMPL do not depend on IMPL. -/
theorem organisationsAgreeOnPermute : Obligations.OrganisationsAgreeOnPermute := by
  unfold Obligations.OrganisationsAgreeOnPermute
  intro s u c rest n h hready himpl hu hport hdec
  subst hu
  lift n to Fin 25 using Nat.lt_succ_of_le h
  have hiterated := run_permuteSteps hready hport hdec
  rw [himpl] at hiterated
  have hunrolled := run_permuteSteps (s := { s with params := { s.params with impl := .unrolled } }) hready hport hdec
  obtain ⟨_, hbusy, _⟩ := hready
  exact ⟨_, hiterated, hunrolled, rfl, hbusy⟩

/-- Settles O32: no round has run. -/
theorem permuteZeroIsIdentity : Obligations.PermuteZeroIsIdentity := by
  unfold Obligations.PermuteZeroIsIdentity
  intro s c rest hready hport hdec
  have hanswered := run_permuteSteps (n := 0) hready hport hdec
  obtain ⟨_, hbusy, _⟩ := hready
  exact ⟨_, _, hanswered, rfl, rfl, hbusy, rfl, rfl⟩

/-- Settles O33: the lanes of the answered PERMUTE are the rounds of that count and variant on the lanes before it. -/
theorem permuteIsPure : Obligations.PermuteIsPure := by
  unfold Obligations.PermuteIsPure
  intro s u c d rest rest' n h hready hready' hlanes hvariant hport hport' hdec hdec'
  lift n to Fin 25 using Nat.lt_succ_of_le h
  have hsame : (permuted n { s with offered := rest }).lanes = (permuted n { u with offered := rest' }).lanes := by
    simp only [permuted, withRounds, respond_lanes, leaveCount_lanes, hlanes, hvariant]
  exact ⟨_, _, _, _, run_permuteSteps hready hport hdec, run_permuteSteps hready' hport' hdec', hsame, rfl, rfl⟩

/-! ## Two in a row -/

/-- The answered PERMUTE is delivered in one step more (R50). -/
theorem run_permuteSteps_succ {s : State} {c : Command} {rest : List Command} {n : Fin 25} (hready : Ready s)
    (htake : s.rspReady = true) (hport : s.offered = c :: rest) (hdec : decode c = .ok (.permute n.val)) :
    run (permuteSteps s.params.impl n + 1) s = .next (deliver ⟨.ok, 0⟩ (permuted n { s with offered := rest })) := by
  rw [run_add 1 (run_permuteSteps hready hport hdec), run_one]
  obtain ⟨hrst, _, _⟩ := hready
  exact step_of_event (.delivery hrst rfl htake)

/-- Iota tells rounds with different constants apart on any lanes (43_iota.md R72). -/
theorem runRound_ne_of_rc_ne {tab : Config.Tables} {r q : Fin 24} (h : tab.rc[r] ≠ tab.rc[q]) (v : Variant)
    (S : Lanes) : runRound tab v r S ≠ runRound tab v q S := by
  intro heq
  have hzero : (runRound tab v r S)[0] = (runRound tab v q S)[0] := congrArg (·[0]) heq
  rw [runRound, runRound, iota_getElem_zero, iota_getElem_zero] at hzero
  exact h ((BitVec.xor_right_inj _).mp hzero)

/-- ROUND(0) after ROUND(0) is not ROUND(1) after ROUND(0) (R84). -/
theorem runRounds_one_one_ne_two (v : Variant) (S : Lanes) :
    runRounds tables v 1 (by decide) (runRounds tables v 1 (by decide) S) ≠ runRounds tables v 2 (by decide) S :=
  runRound_ne_of_rc_ne (by decide) v (runRounds tables v 1 (by decide) S)

/-- Settles O34: the first PERMUTE, its delivery, and the second on the lanes the first left. -/
theorem permuteRestartsAtRoundZero : Obligations.PermuteRestartsAtRoundZero := by
  unfold Obligations.PermuteRestartsAtRoundZero
  intro s c d rest a b ha hb hready htake hport hdec hdec'
  lift a to Fin 25 using Nat.lt_succ_of_le ha
  lift b to Fin 25 using Nat.lt_succ_of_le hb
  have hfirst := run_permuteSteps_succ hready htake hport hdec
  obtain ⟨hrst, hbusy, _⟩ := hready
  have hready' : Ready (deliver ⟨.ok, 0⟩ (permuted a { s with offered := d :: rest })) := ⟨hrst, hbusy, rfl⟩
  refine ⟨?_, fun himpl => ?_⟩
  · have hsecond := (run_add _ hfirst).trans (run_permuteSteps hready' rfl hdec')
    have hsteps : (match s.params.impl with | .iterated => a.val + b.val + 5 | .unrolled => 3) =
        permuteSteps s.params.impl a + 1 + permuteSteps s.params.impl b := by
      cases s.params.impl with
      | iterated => simp only [permuteSteps]; omega
      | unrolled => rfl
    refine ⟨_, (congrArg (run · s) hsteps).trans hsecond, rfl, rfl, rfl, hbusy, rfl, fun _ ha1 hb1 => ?_⟩
    obtain rfl : a = 1 := Fin.ext ha1
    obtain rfl : b = 1 := Fin.ext hb1
    exact runRounds_one_one_ne_two s.params.variant s.lanes
  · rw [himpl] at hfirst
    have hstart := run_permute_rounds hready' himpl rfl hdec' (Nat.zero_le _)
    exact ⟨_, (run_add 1 hfirst).trans hstart, rfl, rfl, rfl, rfl, rfl⟩

/-! ## The known answer -/

/-- The lanes after 12 rounds of the standard variant on the zero state (vector P7). -/
def afterTwelveRounds : Lanes :=
  lanesOfRows #v[
    #v[0x4089B1D2EF5D3A26, 0x8409F6C9BE239ECB, 0x12657D5A4568EAD5, 0x4D9F3E32387E66D3, 0x3BE7F6680BB1C847],
    #v[0x61ED7FB0CE6CA6AF, 0x3671348A3FBD6487, 0x81E9F633F01DCF03, 0xAB5EEFA38E5546D9, 0x8298D4E430062494],
    #v[0x3229E84A8E1704C2, 0x56F221867A1B3140, 0xDB7043CF08757BB2, 0x52DE6DE69935B888, 0x98A1C2D38194EDA1],
    #v[0x9AF85D4549FB53C7, 0x667E09DE6B59E740, 0xC08877B3D1A7A9F3, 0x5DA108D19209739F, 0xE0E096FFE4FF71EA],
    #v[0x77BADAFBFD43D602, 0x50A13329B93C785F, 0xF8AE145ADFFBE076, 0x366D5164BB8F0BB5, 0x438298AA08F16A54]]

theorem runRounds_twelve_std_zeroLanes : runRounds tables .std 12 (by decide) zeroLanes = afterTwelveRounds := by
  decide

theorem foldl_runRound_std_afterTwelveRounds :
    ((List.finRange 24).drop 12).foldl (fun T r => runRound tables .std r T) afterTwelveRounds = knownAnswer := by
  decide

/-- Vector K1, computed in two halves. -/
theorem runRounds_full_std_zeroLanes : runRounds tables .std 24 le_rfl zeroLanes = knownAnswer := by
  rw [runRounds_full_eq_foldl_drop tables .std 12 (by decide), runRounds_twelve_std_zeroLanes,
    foldl_runRound_std_afterTwelveRounds]

/-- Settles O35: the load, permute and read-back of the zero state, with K1 as the 24 rounds' result. -/
theorem knownAnswerOfStandardVariant : Obligations.KnownAnswerOfStandardVariant := by
  unfold Obligations.KnownAnswerOfStandardVariant
  intro s hready htake hvariant hport
  obtain ⟨k, t, hrun, hoffered, hidle, _, hlanes, hreceived⟩ :=
    loadPermuteReadBack s zeroLanes 24 le_rfl hready htake hport
  rw [hvariant, runRounds_full_std_zeroLanes] at hlanes hreceived
  exact ⟨k, t, hrun, hoffered, hidle, hlanes, hreceived⟩

end Sys2Proof.Machine
end

section
/-! PROOFS. A stream of any words on the port (44_round_and_permute.md R83; 45_host_commands.md R92): each command, and
so the stream, leaves the lanes and the answers of the host's own view, which does not know IMPL. -/

namespace Sys2Proof

open Machine

/-! ## The host's view of one command -/

/-- A command is rejected or is a legal one of one of the three rows (R92). -/
theorem errorOf_or_legal (c : Command) :
    (∃ code, errorOf c = some code) ∨
    (∃ (i : Fin 25) (value : Word), decode c = .ok (.ldlane i.val value)) ∨
    (∃ i : Fin 25, decode c = .ok (.rdlane i.val)) ∨ ∃ n : Fin 25, decode c = .ok (.permute n.val) := by
  cases herr : errorOf c with
  | some code => exact .inl ⟨code, rfl⟩
  | none =>
    cases hdec : decode c with
    | error e => exact nomatch herr.symm.trans (errorOf_of_decode_error hdec)
    | ok i =>
      rw [errorOf_of_decode_ok hdec] at herr
      cases i with
      | ldlane idx value =>
        lift idx to Fin 25 using by simpa [rangeError, Nat.lt_succ_iff] using herr
        exact .inr (.inl ⟨idx, value, rfl⟩)
      | rdlane idx =>
        lift idx to Fin 25 using by simpa [rangeError, Nat.lt_succ_iff] using herr
        exact .inr (.inr (.inl ⟨idx, rfl⟩))
      | permute n =>
        lift n to Fin 25 using by simpa [rangeError, Nat.lt_succ_iff] using herr
        exact .inr (.inr (.inr ⟨n, rfl⟩))

theorem hostCommand_of_errorOf {c : Command} {code : RspCode} (h : errorOf c = some code) (v : Variant) (S : Lanes) :
    hostCommand v S c = (S, ⟨code, 0⟩) := by
  simp [hostCommand, h]

theorem hostCommand_ldlane {c : Command} {i : Fin 25} {value : Word} (h : decode c = .ok (.ldlane i.val value))
    (v : Variant) (S : Lanes) : hostCommand v S c = (S.set i value, ⟨.ok, 0⟩) := by
  have hle : i.val ≤ 24 := Nat.le_of_lt_succ i.isLt
  have herr : errorOf c = none := (errorOf_of_decode_ok h).trans (if_pos hle)
  obtain ⟨_, hop, harg, hdata⟩ := fields_of_decode h
  simp only [Instr.opcode, Instr.operand, Instr.dataWord] at hop harg hdata
  simp [hostCommand, herr, hop, ← harg, hdata, hle]

theorem hostCommand_rdlane {c : Command} {i : Fin 25} (h : decode c = .ok (.rdlane i.val)) (v : Variant) (S : Lanes) :
    hostCommand v S c = (S, ⟨.ok, S[i]⟩) := by
  have hle : i.val ≤ 24 := Nat.le_of_lt_succ i.isLt
  have herr : errorOf c = none := (errorOf_of_decode_ok h).trans (if_pos hle)
  obtain ⟨_, hop, harg, _⟩ := fields_of_decode h
  simp only [Instr.opcode, Instr.operand] at hop harg
  simp [hostCommand, herr, hop, ← harg, hle]

theorem hostCommand_permute {c : Command} {n : Fin 25} (h : decode c = .ok (.permute n.val)) (v : Variant)
    (S : Lanes) :
    hostCommand v S c = (runRounds tables v n.val (Nat.le_of_lt_succ n.isLt) S, ⟨.ok, 0⟩) := by
  have hle : n.val ≤ 24 := Nat.le_of_lt_succ n.isLt
  have herr : errorOf c = none := (errorOf_of_decode_ok h).trans (if_pos hle)
  obtain ⟨_, hop, harg, _⟩ := fields_of_decode h
  simp only [Instr.opcode, Instr.operand] at hop harg
  simp [hostCommand, herr, hop, ← harg, hle]

/-! ## The engine serves what the host sees -/

/-- From the ready engine `s`, `t` is ready again with `rest` left on its port, the lanes `out.1`, and the responses
`out.2` delivered. -/
structure Served (s : State) (rest : List Command) (out : Lanes × List Response) (t : State) : Prop where
  ready : Ready t
  rspReady : t.rspReady = true
  params : t.params = s.params
  offered : t.offered = rest
  lanes : t.lanes = out.1
  received : t.received = s.received ++ out.2

/-- One command, whatever its word (R88, R92). -/
theorem exists_run_served_command {s : State} {c : Command} {rest : List Command} (hready : Ready s)
    (htake : s.rspReady = true) (hport : s.offered = c :: rest) :
    ∃ k t, run k s = .next t ∧
      Served s rest ((hostCommand s.params.variant s.lanes c).1, [(hostCommand s.params.variant s.lanes c).2]) t := by
  obtain ⟨code, herr⟩ | ⟨i, value, hdec⟩ | ⟨i, hdec⟩ | ⟨n, hdec⟩ := errorOf_or_legal c
  · have hrun := run_two_of_respond (step_of_event (.rejection hready hport herr)) hready htake
    rw [hostCommand_of_errorOf herr]
    exact ⟨_, _, hrun, hready, htake, rfl, rfl, rfl, rfl⟩
  · have hrun := run_two_of_respond (step_of_event (.load hready hport hdec)) hready htake
    rw [hostCommand_ldlane hdec]
    exact ⟨_, _, hrun, hready, htake, rfl, rfl, rfl, rfl⟩
  · have hrun := run_two_of_respond (step_of_event (.read hready hport hdec)) hready htake
    rw [hostCommand_rdlane hdec]
    exact ⟨_, _, hrun, hready, htake, rfl, rfl, rfl, rfl⟩
  · have hrun := run_permuteSteps_succ hready htake hport hdec
    obtain ⟨hrst, hbusy, _⟩ := hready
    rw [hostCommand_permute hdec]
    exact ⟨_, _, hrun, ⟨hrst, hbusy, rfl⟩, htake, rfl, rfl, rfl, rfl⟩

/-- A whole stream of words (20_memory.md R36; R92). -/
theorem exists_run_served_script {s : State} (hready : Ready s) (htake : s.rspReady = true) :
    ∃ k t, run k s = .next t ∧ Served s [] (hostScript s.params.variant s.lanes s.offered) t := by
  induction hport : s.offered generalizing s with
  | nil => exact ⟨0, s, run_zero s, hready, htake, rfl, hport, rfl, (List.append_nil _).symm⟩
  | cons c rest ih =>
    obtain ⟨j, u, hj, hu⟩ := exists_run_served_command hready htake hport
    obtain ⟨k, t, hk, ht⟩ := ih hu.ready hu.rspReady hu.offered
    rw [hu.params, hu.lanes] at ht
    refine ⟨j + k, t, (run_add k hj).trans hk, ht.ready, ht.rspReady, ht.params.trans hu.params, ht.offered, ht.lanes,
      ?_⟩
    rw [ht.received, hu.received, List.append_assoc, List.singleton_append, hostScript]

/-- One answer for each command (30_encoding.md R42). -/
theorem length_hostScript (v : Variant) (S : Lanes) (cs : List Command) : (hostScript v S cs).2.length = cs.length := by
  induction cs generalizing S with
  | nil => rfl
  | cons c rest ih => simp only [hostScript, List.length_cons, ih]

/-- Settles O53: both engines serve the stream as the host sees it, and the host's view takes no IMPL. -/
theorem organisationsIndistinguishable : Obligations.OrganisationsIndistinguishable := by
  unfold Obligations.OrganisationsIndistinguishable
  intro s u hready hready' htake htake' hlanes hvariant hport
  obtain ⟨k, t, hk, ht⟩ := exists_run_served_script hready htake
  obtain ⟨l, w, hl, hw⟩ := exists_run_served_script hready' htake'
  rw [← hlanes, ← hvariant, ← hport] at hw
  exact ⟨k, l, t, w, _, hk, hl, ht.offered, hw.offered, ht.lanes.trans hw.lanes.symm, ht.received, hw.received,
    length_hostScript _ _ _⟩

end Sys2Proof
end

section
/-! PROOFS. The host's commands (45_host_commands.md R88 to R92): the words of LDLANE and RDLANE, what each does and
leaves unchanged, and when the port runs a command, rejects it or lets it wait. -/

namespace Sys2Proof

open Machine

/-! ## A stream of words -/

/-- Settles O52: every stream is served as the host sees it. -/
theorem engineServesEveryScript : Obligations.EngineServesEveryScript := by
  unfold Obligations.EngineServesEveryScript
  intro s hready htake
  obtain ⟨k, t, hrun, ht⟩ := exists_run_served_script hready htake
  exact ⟨k, t, hrun, ht.offered, ht.ready, ht.lanes, ht.received⟩

/-! ## The words of a row -/

/-- The fields of op << 12 | n (30_encoding.md R41, R47). -/
theorem fields_of_word_eq_or {c : Command} {op : BitVec 4} {n : Nat} (hn : n ≤ 255)
    (hword : c.word = (op ++ 0#4 ++ 0#8) ||| BitVec.ofNat 16 n) : c.rsv = 0#4 ∧ c.op = op ∧ c.arg.toNat = n := by
  rw [or_arg op hn] at hword
  refine ⟨by rw [Command.rsv, hword, extract_rsv], by rw [Command.op, hword, extract_op], ?_⟩
  rw [Command.arg, hword, extract_arg, BitVec.toNat_ofNat, Nat.mod_eq_of_lt (by omega)]

/-- The words 0x1000 | idx (R89). -/
theorem decode_ldlane_word {idx : Nat} (h : idx ≤ 255) (value : Word) :
    decode ⟨0x1000 ||| BitVec.ofNat 16 idx, value⟩ = .ok (.ldlane idx value) := by
  obtain ⟨hrsv, hop, harg⟩ :=
    fields_of_word_eq_or (c := ⟨0x1000 ||| BitVec.ofNat 16 idx, value⟩) (op := 1#4) h rfl
  rw [decode_ldlane hrsv hop, harg]

/-- The words 0x2000 | idx, with any CD (R90). -/
theorem decode_rdlane_word {idx : Nat} (h : idx ≤ 255) (cd : Word) :
    decode ⟨0x2000 ||| BitVec.ofNat 16 idx, cd⟩ = .ok (.rdlane idx) := by
  obtain ⟨hrsv, hop, harg⟩ :=
    fields_of_word_eq_or (c := ⟨0x2000 ||| BitVec.ofNat 16 idx, cd⟩) (op := 2#4) h rfl
  rw [decode_rdlane hrsv hop, harg]

/-- Settles O6: the three rows by their fields, the other words by the check each fails. -/
theorem writtenOutWordsDecode : Obligations.WrittenOutWordsDecode := by
  unfold Obligations.WrittenOutWordsDecode
  exact ⟨decode_ldlane rfl rfl, decode_rdlane rfl rfl, decode_permute rfl rfl, decode_permute rfl rfl, rfl, rfl, rfl⟩

/-! ## LDLANE and RDLANE -/

/-- Settles O22: a legal index writes its lane, another is rejected, and the words' fields are the row's. -/
theorem ldlaneWritesOneLane : Obligations.LdlaneWritesOneLane := by
  unfold Obligations.LdlaneWritesOneLane
  intro s idx value
  refine ⟨fun h => exec_ldlane ⟨idx, h⟩ value s, fun hgt => ?_, fun h => decode_ldlane_word h value⟩
  have herr : rangeError (.ldlane idx value) = some .errIndex := if_neg (by omega)
  exact exec_of_rangeError herr s

/-- Settles O24: a legal index answers its lane, another is rejected, and the words' fields are the row's. -/
theorem rdlaneReturnsLane : Obligations.RdlaneReturnsLane := by
  unfold Obligations.RdlaneReturnsLane
  intro s idx
  refine ⟨fun h => exec_rdlane ⟨idx, h⟩ s, fun hgt => ?_, fun h => decode_rdlane_word h⟩
  have herr : rangeError (.rdlane idx) = some .errIndex := if_neg (by omega)
  exact exec_of_rangeError herr s

/-- Settles O23: a legal LDLANE writes its own lane and ghost bit and answers, a rejected one only answers. -/
theorem ldlaneFrame : Obligations.LdlaneFrame := by
  unfold Obligations.LdlaneFrame
  intro s t idx value h
  obtain ⟨i, rfl, he⟩ | ⟨_, he⟩ := execLdlane_cases idx value s
  · obtain rfl := next_inj (he.symm.trans h)
    refine ⟨fun j hj => ?_, rfl, rfl, rfl, rfl, rfl, rfl, rfl, rfl, rfl⟩
    have hji : j ≠ i := Fin.ne_of_val_ne hj
    rw [respond_lanes, respond_written, writeLane_lanes_getElem, writeLane_written_getElem, if_neg hji, if_neg hji]
    exact ⟨rfl, rfl⟩
  · obtain rfl := next_inj (he.symm.trans h)
    exact ⟨fun _ _ => ⟨rfl, rfl⟩, rfl, rfl, rfl, rfl, rfl, rfl, rfl, rfl, rfl⟩

/-- Settles O25: the load and its delivery leave a ready engine, whose RDLANE reads the lanes as written. -/
theorem rdlaneAfterLdlane : Obligations.RdlaneAfterLdlane := by
  unfold Obligations.RdlaneAfterLdlane
  intro s c d rest i j value hready htake hport hload hread
  have hloaded := run_two_of_respond (step_of_event (.load hready hport hload)) hready htake
  have hanswered := (run_add 1 hloaded).trans ((run_one _).trans (step_of_event (.read hready rfl hread)))
  refine ⟨_, hanswered, ?_, rfl, rfl, rfl⟩
  rw [respond_rsp, ← writeLane_lanes_getElem]
  rfl

/-! ## The port -/

/-- Settles O37: the acceptance of a word that decodes. -/
theorem stepRunsDecodedCommand : Obligations.StepRunsDecodedCommand := by
  unfold Obligations.StepRunsDecodedCommand
  intro s c rest i hready hport hdec
  exact step_of_decode_ok hready hport hdec

/-- A row's bits are decoded as the pair they make up (log entry 5). -/
theorem decodeTableWord_eq_some_iff {nbits w : Nat} {i : Instr} :
    decodeTableWord nbits w = some i ↔ decode (commandOfBits nbits w) = .ok i := by
  rw [decodeTableWord]
  cases decode (commandOfBits nbits w) <;> simp [Except.toOption]

/-- Settles O38: the state with the command placed is ready, with that command at the head of the port. -/
theorem placedCommandRunsNext : Obligations.PlacedCommandRunsNext := by
  unfold Obligations.PlacedCommandRunsNext
  intro s nbits w i hdec
  have hready : Ready (s.withFetchWord nbits w) := ⟨rfl, rfl, rfl⟩
  exact step_of_decode_ok hready rfl (decodeTableWord_eq_some_iff.mp hdec)

/-- Settles O43: it is the event of a ready engine with nothing on its port. -/
theorem idleEngineDoesNothing : Obligations.IdleEngineDoesNothing := by
  unfold Obligations.IdleEngineDoesNothing
  intro s hready hport
  exact step_of_event (.nothing hready hport)

/-- CD does not save a word of another row than LDLANE's that is illegal with CD = 0 (R91). -/
theorem errorOf_eq_errIllegal_of_zero_data {w : BitVec 16} {e : DecodeError} (hop : w.extractLsb' 12 4 ≠ 1#4)
    (hzero : decode ⟨w, 0⟩ = .error e) (d : Word) : errorOf ⟨w, d⟩ = some .errIllegal :=
  errorOf_of_decode_error ((decode_data_irrel hop d 0).trans hzero)

/-- Settles O39: an illegal word ends in ERR_ILLEGAL, and a rejection is the response alone; the three examples are
reserved words whatever CD is. -/
theorem illegalWordIsRejected : Obligations.IllegalWordIsRejected := by
  unfold Obligations.IllegalWordIsRejected
  constructor
  · intro s c rest hready hport hill
    have herr : errorOf c = some .errIllegal := if_pos hill
    exact step_of_event (.rejection hready hport herr)
  · intro d
    obtain ⟨_, _, _, _, hreservedBits, hallZero, hreservedOpcode⟩ := writtenOutWordsDecode
    exact ⟨errorOf_eq_errIllegal_of_zero_data (by decide) hallZero d,
      errorOf_eq_errIllegal_of_zero_data (by decide) hreservedBits d,
      errorOf_eq_errIllegal_of_zero_data (by decide) hreservedOpcode d⟩

/-- A ready engine is ready for a command (30_encoding.md R50). -/
theorem cmdReady_of_ready {s : State} (h : Ready s) : s.cmdReady = true := by
  obtain ⟨_, hbusy, hrsp⟩ := h
  simp [State.cmdReady, State.idle, hbusy, hrsp]

/-- An event that is neither a reset nor of a ready engine does not see the port: it leaves what is offered, and takes
place just so whatever is offered instead. -/
theorem event_offered_of_not_ready {s t : State} (hrst : s.rst = false) (hnot : ¬ Ready s) (he : Event s t)
    (cs : List Command) :
    t.offered = s.offered ∧ Event { s with offered := cs } { t with offered := cs } := by
  cases he with
  | reset h => simp [hrst] at h
  | delivery _ hrsp htake => exact ⟨rfl, .delivery hrst hrsp htake⟩
  | waiting _ hrsp hwait => exact ⟨rfl, .waiting hrst hrsp hwait⟩
  | @round r _ hrsp hbusy himpl hdue hr =>
    exact ⟨roundStep_offered r s, .round hrst hrsp hbusy himpl hdue hr⟩
  | completion _ hrsp hbusy himpl hdone => exact ⟨rfl, .completion hrst hrsp hbusy himpl hdone⟩
  | nothing hready | rejection hready | load hready | read hready | start hready | atOnce hready =>
    exact absurd hready hnot

/-- Settles O44: an engine that is not idle takes one of the events that do not see the port. -/
theorem offeredCommandWaits : Obligations.OfferedCommandWaits := by
  unfold Obligations.OfferedCommandWaits
  intro s t cs hrst hidle h
  have hnot : ¬ Ready s := fun hready => by simp [cmdReady_of_ready hready] at hidle
  obtain ⟨hkept, he⟩ := event_offered_of_not_ready hrst hnot (event_of_step h) cs
  exact ⟨hkept, step_of_event he⟩

end Sys2Proof
end

section
/-! PROOFS. Rejections and the order of the checks (60_exceptions.md R94 to R96, R99 to R101), and that no state of the
invariant stops the engine (R97; 70_reset_and_hazards.md R116). -/

namespace Sys2Proof

open Machine

/-! ## A rejection is precise -/

/-- A ready engine rejects the command on its port, and that is all it does (R100). -/
theorem step_of_errorOf {s : State} {c : Command} {rest : List Command} {code : RspCode} (hready : Ready s)
    (hport : s.offered = c :: rest) (herr : errorOf c = some code) :
    step s = .next { s with offered := rest, rsp := some ⟨code, 0⟩ } :=
  step_of_event (.rejection hready hport herr)

/-- Settles O40: the rejection is one step, its delivery the next. -/
theorem rejectionIsPrecise : Obligations.RejectionIsPrecise := by
  unfold Obligations.RejectionIsPrecise
  intro s c rest code hready hport herr
  have hrejected := step_of_errorOf hready hport herr
  exact ⟨hrejected, fun htake => run_two_of_respond (t := { s with offered := rest }) hrejected hready htake⟩

/-! ## The order of the checks -/

/-- A reserved opcode or a non-zero `rsv` is illegal whatever `arg` is, so the word 0x31FF is (R96, R99). -/
theorem errorOf_of_illegal {c : Command}
    (h : c.rsv ≠ 0#4 ∨ (c.op ≠ 1#4 ∧ c.op ≠ 2#4 ∧ c.op ≠ 3#4) ∨ c.word = 0x31FF) :
    errorOf c = some .errIllegal := by
  obtain hrsv | hop | hword := h
  · exact if_pos (.inl hrsv)
  · exact if_pos (.inr hop)
  · have hrsv : c.rsv ≠ 0#4 := by rw [Command.rsv, hword]; decide
    exact if_pos (.inl hrsv)

/-- PERMUTE's range check (R94). -/
theorem errorOf_of_permute_gt {c : Command} (hrsv : c.rsv = 0#4) (hop : c.op = 3#4) (hgt : 24 < c.arg.toNat) :
    errorOf c = some .errRounds :=
  (errorOf_of_decode_ok (decode_permute hrsv hop)).trans (if_neg (by omega))

/-- The range check of LDLANE and RDLANE (R95). -/
theorem errorOf_of_index_gt {c : Command} (hrsv : c.rsv = 0#4) (hop : c.op = 1#4 ∨ c.op = 2#4)
    (hgt : 24 < c.arg.toNat) : errorOf c = some .errIndex := by
  obtain hop | hop := hop
  · exact (errorOf_of_decode_ok (decode_ldlane hrsv hop)).trans (if_neg (by omega))
  · exact (errorOf_of_decode_ok (decode_rdlane hrsv hop)).trans (if_neg (by omega))

/-- Settles O41: each clause's words end in its error, and a reset is the event of every state that requests one. -/
theorem decodeCheckComesFirst : Obligations.DecodeCheckComesFirst := by
  unfold Obligations.DecodeCheckComesFirst
  constructor
  · intro s c rest hready hport
    exact ⟨fun hill => step_of_errorOf hready hport (errorOf_of_illegal hill),
      fun hrsv hop hgt => step_of_errorOf hready hport (errorOf_of_permute_gt hrsv hop hgt),
      fun hrsv hop hgt => step_of_errorOf hready hport (errorOf_of_index_gt hrsv hop hgt)⟩
  · intro s hrst
    exact ⟨takeReset s, step_of_event (.reset hrst), takeReset_busy s, takeReset_rsp s, takeReset_offered s⟩

/-! ## The engine never stops -/

/-- The invariant rules out the sequencer's three faults (44_round_and_permute.md R82; 10_state.md R12, R14, R15). -/
theorem exists_sequencerStep_of_inv {s : State} (hi : Inv s) (hbusy : s.busy = true) :
    ∃ t, sequencerStep s = .next t := by
  have hrnds := hi.rnds_le
  have hridx := hi.ridx_le
  obtain ⟨himpl, _⟩ | ⟨_, _, h⟩ | ⟨_, _, _, _, h⟩ | ⟨_, hdue, hpast, _⟩ | ⟨_, hne, hnot, _⟩ := sequencerStep_cases s
  · exact nomatch himpl.symm.trans (hi.busy_iterated hbusy)
  · exact ⟨_, h⟩
  · exact ⟨_, h⟩
  · rw [BitVec.lt_def] at hdue
    omega
  · rw [BitVec.lt_def] at hnot
    exact absurd (BitVec.eq_of_toNat_eq (by omega)) hne

/-- Settles O50: only the sequencer has faults, and the invariant rules them out; every command answers. -/
theorem engineNeverStops : Obligations.EngineNeverStops := by
  unfold Obligations.EngineNeverStops
  intro s hi
  obtain ⟨_, h⟩ | ⟨_, _, _, ⟨_, h⟩ | ⟨_, h⟩⟩ | ⟨_, _, hbusy, h⟩ | ⟨_, _, _, _, h⟩ |
    ⟨_, _, _, _, rest, _, ⟨_, _, h⟩ | ⟨i, _, h⟩⟩ := step_cases s
  · exact ⟨_, h⟩
  · exact ⟨_, h⟩
  · exact ⟨_, h⟩
  · obtain ⟨t, ht⟩ := exists_sequencerStep_of_inv hi hbusy
    exact ⟨t, h.trans ht⟩
  · exact ⟨_, h⟩
  · exact ⟨_, h⟩
  · obtain ⟨t, ht⟩ := exec_next i { s with offered := rest }
    exact ⟨t, h.trans ht⟩

end Sys2Proof
end

section
/-! PROOFS. Reset at any point (70_reset_and_hazards.md R107 to R109), the steps a busy engine still needs (R116), and
that what the engine does next depends neither on its lanes nor on VARIANT (R117). -/

namespace Sys2Proof

open Machine

/-! ## Reset -/

/-- Settles O46: a requested reset is every state's event, and `takeReset` clears the control and the ghost bits. -/
theorem resetAbandonsEverything : Obligations.ResetAbandonsEverything := by
  unfold Obligations.ResetAbandonsEverything
  intro s hrst
  refine ⟨takeReset s, step_of_event (.reset hrst), takeReset_busy s, takeReset_ridx s, takeReset_rnds s,
    takeReset_rsp s, rfl, takeReset_received s, takeReset_params s, takeReset_rst s, takeReset_offered s,
    takeReset_rspReady s, fun i => ?_⟩
  simp

/-! ## A busy engine finishes -/

@[simp] theorem roundStep_ridx (r : Fin 24) (s : State) : (roundStep r s).ridx = s.ridx + 1 := by simp [roundStep]

@[simp] theorem roundStep_rnds (r : Fin 24) (s : State) : (roundStep r s).rnds = s.rnds := by simp [roundStep]

@[simp] theorem roundStep_rsp (r : Fin 24) (s : State) : (roundStep r s).rsp = s.rsp := by simp [roundStep]

@[simp] theorem roundStep_rspReady (r : Fin 24) (s : State) : (roundStep r s).rspReady = s.rspReady := by
  simp [roundStep]

@[simp] theorem roundStep_rst (r : Fin 24) (s : State) : (roundStep r s).rst = s.rst := by simp [roundStep]

/-- A round step leaves one round less to run (44_round_and_permute.md R82; 10_state.md R12). -/
theorem toNat_sub_roundStep {s : State} (hi : Inv s) (hdue : s.ridx < s.rnds) (r : Fin 24) :
    (roundStep r s).rnds.toNat - (roundStep r s).ridx.toNat = s.rnds.toNat - s.ridx.toNat - 1 := by
  have hle := hi.rnds_le
  rw [BitVec.lt_def] at hdue
  have hridx : (s.ridx + 1).toNat = s.ridx.toNat + 1 := BitVec.toNat_add_of_lt (by simp; omega)
  rw [roundStep_rnds, roundStep_ridx, hridx, Nat.sub_sub]

/-- Settles O51, by induction on the rounds still due: the completion step when none is, else a round step first. -/
theorem busyEngineFinishes : Obligations.BusyEngineFinishes := by
  unfold Obligations.BusyEngineFinishes
  intro s hi hrst hbusy
  induction hk : s.rnds.toNat - s.ridx.toNat generalizing s with
  | zero =>
    have hdone : s.ridx = s.rnds := BitVec.eq_of_toNat_eq (by have := hi.ridx_le; omega)
    refine ⟨finishRounds s, ?_, rfl, rfl, hdone, rfl, rfl, rfl⟩
    rw [run_one, step_of_event (.completion hrst (hi.busy_rsp hbusy) hbusy (hi.busy_iterated hbusy) hdone)]
  | succ k ih =>
    have hdue : s.ridx < s.rnds := by rw [BitVec.lt_def]; omega
    have hround : Event s (roundStep ⟨s.ridx.toNat, by have := hi.rnds_le; omega⟩ s) :=
      .round hrst (hi.busy_rsp hbusy) hbusy (hi.busy_iterated hbusy) hdue rfl
    have hrest := ih _ (inv_of_event hi hround) ((roundStep_rst _ s).trans hrst) ((roundStep_busy _ s).trans hbusy)
      ((toNat_sub_roundStep hi hdue _).trans (Nat.sub_eq_of_eq_add hk))
    rw [roundStep_rnds, roundStep_offered, roundStep_received] at hrest
    rwa [run_succ _ (step_of_event hround)]

/-! ## Control -/

/-- The same control, with the other engine written as `s` with what control leaves free. -/
theorem sameControl_iff {s u : State} :
    SameControl s u ↔ ∃ lanes variant rsp written received resets,
      u = { s with
        lanes := lanes, params := ⟨variant, s.params.impl⟩, rsp := rsp, written := written, received := received,
        resets := resets } ∧
      rsp.map Response.code = s.rsp.map Response.code ∧
      received.map Response.code = s.received.map Response.code := by
  constructor
  · obtain ⟨_, _, _, _, _, _, _, _, ⟨variant, _⟩, _, _, _⟩ := u
    rintro ⟨rfl, rfl, rfl, rfl, rfl, rfl, rfl, hrsp, hreceived⟩
    exact ⟨_, variant, _, _, _, _, rfl, hrsp, hreceived⟩
  · rintro ⟨_, _, _, _, _, _, rfl, hrsp, hreceived⟩
    exact ⟨rfl, rfl, rfl, rfl, rfl, rfl, rfl, hrsp, hreceived⟩

theorem rsp_eq_none_of_sameControl {s u : State} (h : SameControl s u) (hrsp : s.rsp = none) : u.rsp = none := by
  obtain ⟨_, _, _, _, _, _, _, hcode, _⟩ := h
  rwa [hrsp, Option.map_none, Option.map_eq_none_iff] at hcode

/-- The other engine's waiting response has the same code. -/
theorem exists_rsp_of_sameControl {s u : State} (h : SameControl s u) {r : Response} (hrsp : s.rsp = some r) :
    ∃ q, u.rsp = some q ∧ q.code = r.code := by
  obtain ⟨_, _, _, _, _, _, _, hcode, _⟩ := h
  rwa [hrsp, Option.map_some, Option.map_eq_some_iff] at hcode

theorem ready_of_sameControl {s u : State} (h : SameControl s u) (hready : Ready s) : Ready u := by
  obtain ⟨hrst, hbusy, hrsp⟩ := hready
  have hrsp' := rsp_eq_none_of_sameControl h hrsp
  obtain ⟨_, _, hbusy', _, _, hrst', _⟩ := h
  exact ⟨hrst'.trans hrst, hbusy'.trans hbusy, hrsp'⟩

/-! ## The operations keep the same control -/

/-- The host presents the same commands to both. -/
theorem sameControl_offered {s u : State} (h : SameControl s u) (cs : List Command) :
    SameControl { s with offered := cs } { u with offered := cs } := by
  obtain ⟨hridx, hrnds, hbusy, _, hrest⟩ := h
  exact ⟨hridx, hrnds, hbusy, rfl, hrest⟩

/-- The data words of the two responses need not agree. -/
theorem sameControl_respond {s u : State} (h : SameControl s u) (code : RspCode) (data data' : Word) :
    SameControl (respond code data s) (respond code data' u) := by
  obtain ⟨hridx, hrnds, hbusy, hoffered, hrspReady, hrst, himpl, _, hreceived⟩ := h
  exact ⟨hridx, hrnds, hbusy, hoffered, hrspReady, hrst, himpl, rfl, hreceived⟩

/-- An LDLANE, even of different values. -/
theorem sameControl_writeLane {s u : State} (h : SameControl s u) (i : Fin 25) (value value' : Word) :
    SameControl (writeLane i value s) (writeLane i value' u) := h

/-- The delivered responses agree in their codes. -/
theorem sameControl_deliver {s u : State} (h : SameControl s u) {r q : Response} (hcode : q.code = r.code) :
    SameControl (deliver r s) (deliver q u) := by
  obtain ⟨hridx, hrnds, hbusy, hoffered, hrspReady, hrst, himpl, _, hreceived⟩ := h
  refine ⟨hridx, hrnds, hbusy, hoffered, hrspReady, hrst, himpl, rfl, ?_⟩
  simp [hreceived, hcode]

/-- A round counts RIDX up in both, whatever it computes in each. -/
theorem sameControl_roundStep {s u : State} (h : SameControl s u) (r : Fin 24) :
    SameControl (roundStep r s) (roundStep r u) := by
  obtain ⟨hridx, hrest⟩ := h
  simpa [SameControl, hridx] using hrest

/-- All rounds at once leave the count in both. -/
theorem sameControl_permuteAtOnce {s u : State} (h : SameControl s u) (n : Fin 25) :
    SameControl (permuteAtOnce n s) (permuteAtOnce n u) := by
  obtain ⟨_, _, hrest⟩ := h
  rw [permuteAtOnce_eq_permuted, permuteAtOnce_eq_permuted]
  refine sameControl_respond ?_ _ _ _
  exact ⟨rfl, rfl, hrest⟩

/-- The other engine takes the same event, and the two go on with the same control. -/
theorem exists_event_sameControl {s u t : State} (h : SameControl s u) (he : Event s t) :
    ∃ w, Event u w ∧ SameControl t w := by
  have hnone := rsp_eq_none_of_sameControl h
  have hready := ready_of_sameControl h
  obtain ⟨_, _, _, _, _, _, rfl, hrsp, hreceived⟩ := sameControl_iff.mp h
  have hoffered := sameControl_offered h
  cases he with
  | reset hrst =>
    refine ⟨_, .reset hrst, ?_⟩
    simp [SameControl, hreceived]
  | delivery hrst hs htake =>
    obtain ⟨q, hu, hcode⟩ := exists_rsp_of_sameControl h hs
    exact ⟨_, .delivery hrst hu htake, sameControl_deliver h hcode⟩
  | waiting hrst hs hwait =>
    obtain ⟨q, hu, _⟩ := exists_rsp_of_sameControl h hs
    exact ⟨_, .waiting hrst hu hwait, h⟩
  | round hrst hs hbusy himpl hdue hr =>
    exact ⟨_, .round hrst (hnone hs) hbusy himpl hdue hr, sameControl_roundStep h _⟩
  | completion hrst hs hbusy himpl hdone =>
    exact ⟨_, .completion hrst (hnone hs) hbusy himpl hdone, rfl, rfl, rfl, rfl, rfl, rfl, rfl, rfl, hreceived⟩
  | nothing hs hport => exact ⟨_, .nothing (hready hs) hport, h⟩
  | rejection hs hport herr =>
    exact ⟨_, .rejection (hready hs) hport herr, sameControl_respond (hoffered _) _ _ _⟩
  | load hs hport hdec =>
    exact ⟨_, .load (hready hs) hport hdec, sameControl_respond (sameControl_writeLane (hoffered _) _ _ _) _ _ _⟩
  | read hs hport hdec =>
    exact ⟨_, .read (hready hs) hport hdec, sameControl_respond (hoffered _) _ _ _⟩
  | start hs hport hdec himpl =>
    exact ⟨_, .start (hready hs) hport hdec himpl, rfl, rfl, rfl, rfl, rfl, rfl, rfl, hrsp, hreceived⟩
  | atOnce hs hport hdec himpl =>
    exact ⟨_, .atOnce (hready hs) hport hdec himpl, sameControl_permuteAtOnce (hoffered _) _⟩

/-! ## Stops -/

/-- A step answers, or the sequencer of a busy engine stops it: no other event has a fault, and none is refused
(60_exceptions.md R97; log entry 11). -/
theorem step_next_or_sequencer_fault (s : State) :
    (∃ t, step s = .next t) ∨
    (s.rst = false ∧ s.rsp = none ∧ s.busy = true ∧ ∃ f, sequencerStep s = .fault f) := by
  obtain ⟨_, h⟩ | ⟨_, _, _, ⟨_, h⟩ | ⟨_, h⟩⟩ | ⟨hrst, hrsp, hbusy, h⟩ | ⟨_, _, _, _, h⟩ |
    ⟨_, _, _, _, rest, _, ⟨_, _, h⟩ | ⟨i, _, h⟩⟩ := step_cases s
  · exact .inl ⟨_, h⟩
  · exact .inl ⟨_, h⟩
  · exact .inl ⟨_, h⟩
  · cases hseq : sequencerStep s with
    | next t => exact .inl ⟨t, h.trans hseq⟩
    | fault f => exact .inr ⟨hrst, hrsp, hbusy, f, rfl⟩
    | refused q =>
      obtain ⟨_, he⟩ | ⟨_, _, he⟩ | ⟨_, _, _, _, he⟩ | ⟨_, _, _, he⟩ | ⟨_, _, _, he⟩ := sequencerStep_cases s
      all_goals exact nomatch he.symm.trans hseq
  · exact .inl ⟨_, h⟩
  · exact .inl ⟨_, h⟩
  · obtain ⟨t, ht⟩ := exec_next i { s with offered := rest }
    exact .inl ⟨t, h.trans ht⟩

/-- The sequencer's faults are decided by IMPL, RIDX and RNDS (44_round_and_permute.md R82). -/
theorem sequencerStep_fault_of_sameControl {s u : State} {f : Fault} (h : SameControl s u)
    (hf : sequencerStep s = .fault f) : sequencerStep u = .fault f := by
  obtain ⟨_, _, _, _, _, _, rfl, _, _⟩ := sameControl_iff.mp h
  obtain ⟨himpl, he⟩ | ⟨_, _, he⟩ | ⟨_, _, _, _, he⟩ | ⟨himpl, hdue, hpast, he⟩ | ⟨himpl, hne, hnot, he⟩ :=
    sequencerStep_cases s
  · rw [← hf, he]
    simp [sequencerStep, himpl]
  · exact nomatch he.symm.trans hf
  · exact nomatch he.symm.trans hf
  · rw [← hf, he]
    simp [sequencerStep, himpl, BitVec.ne_of_lt hdue, hdue, hpast]
  · rw [← hf, he]
    simp [sequencerStep, himpl, hne, hnot]

/-- Settles O58: when one engine's step is an event the other takes the same event; when it is a fault of the
sequencer the other has that fault. -/
theorem controlIgnoresLanes : Obligations.ControlIgnoresLanes := by
  unfold Obligations.ControlIgnoresLanes
  intro s u h
  obtain ⟨t, ht⟩ | ⟨hrst, hrsp, hbusy, f, hf⟩ := step_next_or_sequencer_fault s
  · obtain ⟨w, hw, htw⟩ := exists_event_sameControl h (event_of_step ht)
    rw [ht, step_of_event hw]
    exact htw
  · have hf' := sequencerStep_fault_of_sameControl h hf
    have hrsp' := rsp_eq_none_of_sameControl h hrsp
    obtain ⟨_, _, hbusy', _, _, hrst', _⟩ := h
    rw [step_of_busy hrst hrsp hbusy, step_of_busy (hrst'.trans hrst) hrsp' (hbusy'.trans hbusy), hf, hf']

end Sys2Proof
end
